-- ==== Sys2Proof/Word.lean ====
section
/-! DEFINITION. The widths of the values that travel between the sub-blocks (spec/00_scope.md R4, R7). -/

namespace Sys2Proof

/-- One character of a symbol stream: CHAR_BITS = 8 (R4, R35). -/
abbrev Char8 := BitVec 8

/-- One entry of the Alphabet: an ASCII code, seven bits (R30, R72). -/
abbrev Ascii := BitVec 7

/-- The index a symbol stands for: SYM_BITS = 6 (R4, R50). -/
abbrev Index := BitVec 6

/-- A 32-bit pattern of the integer datapath: ACC_BITS = 32 (R4). -/
abbrev Word32 := BitVec 32

/-- A 64-bit pattern: an operand port, RES, or a binary64 value on a port (R60, R110). -/
abbrev Word64 := BitVec 64

end Sys2Proof
end

