-- ==== Sys2Proof/Syntax.lean ====
section
/-! DEFINITION. The syntax of everything the hardware executes: one constructor of `Instr` per row of
spec/opcode_table.json, and the command word CMD4 (spec/30_encoding.md R60, R61). -/

namespace Sys2Proof

/-- An axis, the value of `AXIS` and of the operand `OPA[0]`: 0 = X (longitude), 1 = Y (latitude) (R17, R132). -/
inductive Axis where
  | x
  | y
  deriving DecidableEq, Repr

/-- The axis a bit names: 0 = X, 1 = Y. -/
def Axis.ofBit (b : Bool) : Axis := if b then .y else .x

/-- The bit that names an axis. -/
def Axis.toBit : Axis → Bool
  | .x => false
  | .y => true

/-- `AXIS xor 1` (R150). -/
def Axis.other : Axis → Axis
  | .x => .y
  | .y => .x

/-- `TIER` (R17): 0 = SMALL, 1 = MEDIUM, 2 = FULL; the value 3 never occurs, so the type has none (U7, log 10). -/
inductive Tier where
  | small
  | medium
  | full
  deriving DecidableEq, Repr

/-- The two bits of `TIER` that DECNUM reports in `RES[33:32]` (R83). -/
def Tier.code : Tier → BitVec 2
  | .small => 0
  | .medium => 1
  | .full => 2

/-- How many symbols follow the leading one (R56). -/
def Tier.extra : Tier → Nat
  | .small => 1
  | .medium => 2
  | .full => 4

/-- A command as the host presents it, the three parts of CMD4 sampled together (R60). -/
structure Command where
  op  : BitVec 4
  opa : Word64
  opb : Word64
  deriving DecidableEq, Repr

/-- One instruction of the opcode table. Commands carry the operand fields R61 names (the other operand bits are
ignored, R60); the number forms carry the operand R62 writes; a filler carries its character. -/
inductive Instr where
  /-- ADDS d: add a small delta to the accumulator of the current axis (R84). -/
  | adds (d : Int)
  /-- ADDM d: add a medium delta to the accumulator of the current axis (R85). -/
  | addm (d : Int)
  /-- SETF v: replace the accumulator of the current axis (R86). -/
  | setf (v : BitVec 28)
  /-- SKIP c: a character outside the Alphabet (R58, R87). -/
  | skip (c : Char8)
  /-- NOP, command code 0 (R144). -/
  | nop
  /-- SYMOF i, command code 1 (R77). -/
  | symof (i : Index)
  /-- IDXOF c, command code 2 (R78). -/
  | idxof (c : Char8)
  /-- RDNUM n, command code 3 (R80). -/
  | rdnum (n : BitVec 3)
  /-- DECNUM, command code 4 (R83). -/
  | decnum
  /-- WRNUM d, a, command code 5 (R100). -/
  | wrnum (d : Word32) (a : Word32)
  /-- TOFIXX lon, command code 6 (R113). -/
  | tofixx (lon : Word64)
  /-- TOFIXY lat, command code 7 (R114). -/
  | tofixy (lat : Word64)
  /-- TODEGX n, command code 8 (R117). -/
  | todegx (n : Word32)
  /-- TODEGY n, command code 9 (R118). -/
  | todegy (n : Word32)
  /-- ACLR, command code 10 (R131). -/
  | aclr
  /-- AADD a, d, command code 11 (R132). -/
  | aadd (a : Axis) (d : Word32)
  /-- ALOAD a, v, command code 12 (R133). -/
  | aload (a : Axis) (v : Word32)
  /-- ADIFF a, x, command code 13 (R134). -/
  | adiff (a : Axis) (x : Word32)
  /-- DECODE, command code 14 (R150). -/
  | decode
  /-- ENCODE, command code 15 (R160). -/
  | encode
  /-- SYM_00: the symbol of index 0, character code 0x30. -/
  | sym00
  /-- SYM_01: the symbol of index 1, character code 0x41. -/
  | sym01
  /-- SYM_02: the symbol of index 2, character code 0x42. -/
  | sym02
  /-- SYM_03: the symbol of index 3, character code 0x43. -/
  | sym03
  /-- SYM_04: the symbol of index 4, character code 0x44. -/
  | sym04
  /-- SYM_05: the symbol of index 5, character code 0x32. -/
  | sym05
  /-- SYM_06: the symbol of index 6, character code 0x45. -/
  | sym06
  /-- SYM_07: the symbol of index 7, character code 0x46. -/
  | sym07
  /-- SYM_08: the symbol of index 8, character code 0x47. -/
  | sym08
  /-- SYM_09: the symbol of index 9, character code 0x48. -/
  | sym09
  /-- SYM_10: the symbol of index 10, character code 0x34. -/
  | sym10
  /-- SYM_11: the symbol of index 11, character code 0x49. -/
  | sym11
  /-- SYM_12: the symbol of index 12, character code 0x4A. -/
  | sym12
  /-- SYM_13: the symbol of index 13, character code 0x4B. -/
  | sym13
  /-- SYM_14: the symbol of index 14, character code 0x4C. -/
  | sym14
  /-- SYM_15: the symbol of index 15, character code 0x4D. -/
  | sym15
  /-- SYM_16: the symbol of index 16, character code 0x4E. -/
  | sym16
  /-- SYM_17: the symbol of index 17, character code 0x36. -/
  | sym17
  /-- SYM_18: the symbol of index 18, character code 0x4F. -/
  | sym18
  /-- SYM_19: the symbol of index 19, character code 0x50. -/
  | sym19
  /-- SYM_20: the symbol of index 20, character code 0x51. -/
  | sym20
  /-- SYM_21: the symbol of index 21, character code 0x52. -/
  | sym21
  /-- SYM_22: the symbol of index 22, character code 0x53. -/
  | sym22
  /-- SYM_23: the symbol of index 23, character code 0x54. -/
  | sym23
  /-- SYM_24: the symbol of index 24, character code 0x38. -/
  | sym24
  /-- SYM_25: the symbol of index 25, character code 0x55. -/
  | sym25
  /-- SYM_26: the symbol of index 26, character code 0x56. -/
  | sym26
  /-- SYM_27: the symbol of index 27, character code 0x57. -/
  | sym27
  /-- SYM_28: the symbol of index 28, character code 0x58. -/
  | sym28
  /-- SYM_29: the symbol of index 29, character code 0x59. -/
  | sym29
  /-- SYM_30: the symbol of index 30, character code 0x5A. -/
  | sym30
  /-- SYM_31: the symbol of index 31, character code 0x2D. -/
  | sym31
  /-- SYM_32: the symbol of index 32, character code 0x31. -/
  | sym32
  /-- SYM_33: the symbol of index 33, character code 0x61. -/
  | sym33
  /-- SYM_34: the symbol of index 34, character code 0x62. -/
  | sym34
  /-- SYM_35: the symbol of index 35, character code 0x63. -/
  | sym35
  /-- SYM_36: the symbol of index 36, character code 0x64. -/
  | sym36
  /-- SYM_37: the symbol of index 37, character code 0x33. -/
  | sym37
  /-- SYM_38: the symbol of index 38, character code 0x65. -/
  | sym38
  /-- SYM_39: the symbol of index 39, character code 0x66. -/
  | sym39
  /-- SYM_40: the symbol of index 40, character code 0x67. -/
  | sym40
  /-- SYM_41: the symbol of index 41, character code 0x68. -/
  | sym41
  /-- SYM_42: the symbol of index 42, character code 0x35. -/
  | sym42
  /-- SYM_43: the symbol of index 43, character code 0x69. -/
  | sym43
  /-- SYM_44: the symbol of index 44, character code 0x6A. -/
  | sym44
  /-- SYM_45: the symbol of index 45, character code 0x6B. -/
  | sym45
  /-- SYM_46: the symbol of index 46, character code 0x6C. -/
  | sym46
  /-- SYM_47: the symbol of index 47, character code 0x6D. -/
  | sym47
  /-- SYM_48: the symbol of index 48, character code 0x6E. -/
  | sym48
  /-- SYM_49: the symbol of index 49, character code 0x37. -/
  | sym49
  /-- SYM_50: the symbol of index 50, character code 0x6F. -/
  | sym50
  /-- SYM_51: the symbol of index 51, character code 0x70. -/
  | sym51
  /-- SYM_52: the symbol of index 52, character code 0x71. -/
  | sym52
  /-- SYM_53: the symbol of index 53, character code 0x72. -/
  | sym53
  /-- SYM_54: the symbol of index 54, character code 0x73. -/
  | sym54
  /-- SYM_55: the symbol of index 55, character code 0x74. -/
  | sym55
  /-- SYM_56: the symbol of index 56, character code 0x39. -/
  | sym56
  /-- SYM_57: the symbol of index 57, character code 0x75. -/
  | sym57
  /-- SYM_58: the symbol of index 58, character code 0x76. -/
  | sym58
  /-- SYM_59: the symbol of index 59, character code 0x77. -/
  | sym59
  /-- SYM_60: the symbol of index 60, character code 0x78. -/
  | sym60
  /-- SYM_61: the symbol of index 61, character code 0x79. -/
  | sym61
  /-- SYM_62: the symbol of index 62, character code 0x7A. -/
  | sym62
  /-- SYM_63: the symbol of index 63, character code 0x2E. -/
  | sym63
  deriving DecidableEq, Repr

end Sys2Proof
end

