-- ==== Sys2Proof/Machine/State.lean ====
section
/-! DEFINITION. The whole state of one copy of the hardware, as plain data (spec/10_state.md, spec/20_memory.md R35 to
R37, spec/45_sequence_fsm.md R143, R170), the reasons a step can stop, and the state after reset
(spec/70_reset_and_hazards.md R200). -/

namespace Sys2Proof
namespace Machine

/-- The 13 values of `ST` (R141). -/
inductive FsmState where
  | idle
  | unit
  | dNext
  | dProbe
  | dExtra
  | dApply
  | dEmit
  | eNext
  | eNumX
  | eShX
  | eNumY
  | eShY
  | eUpd
  deriving DecidableEq, Repr

/-- Where state `UNIT` stands in the pseudocode of the latched operation (R145 implies it, no rule names it; log 6):
at its first line, in RDNUM's loop, in DECNUM's probe, in DECNUM's second read, in WRNUM's push loop. -/
inductive UnitPos where
  | entry
  | read
  | probe
  | extra
  | shift
  deriving DecidableEq, Repr

/-- `ERR` (R16): 0 = NONE, 1 = BUFFER_EXHAUSTED; codes 2 and 3 never occur, so the type has none (U7, log 10). -/
inductive ErrCode where
  | none
  | bufferExhausted
  deriving DecidableEq, Repr

/-- An item of an input stream: a data item or the token `END` (R35). -/
inductive Item (α : Type) where
  | data (a : α)
  | endTok
  deriving DecidableEq, Repr

/-- A point: two binary64 patterns, longitude (x) then latitude (y) (R35). -/
structure Point where
  x : Word64
  y : Word64
  deriving DecidableEq, Repr

/-- The reasons a step could stop the machine with a fault. There is none: the one exception of the hardware,
BufferExhausted, is taken as a next state (R181), and no other error exists (R182). Safe: no run ends here. -/
inductive Fault where
  deriving DecidableEq, Repr

/-- The reasons a step is refused. -/
inductive Refusal where
  /-- Raised only by an arm of `exec` whose instruction has no meaning yet. Safe: nothing is claimed of it. -/
  | notModelled (mnemonic : String)
  /-- Raised by RDNUM with `OPA[2:0]` = 6 or 7, in `IDLE` when it is presented and in `UNIT`: reserved, "Nothing may be
  assumed of the block's behaviour if it does" (93_implementation_defined.md U6, treatment `refuse`; log 9). Safe. -/
  | reservedCount
  deriving DecidableEq, Repr

/-- Everything the spec gives one copy of the hardware (R10), the input lines of R170, and two fields of the model's own
(`upos`, `draws`). -/
structure State where
  /-- `ST` (R17, R141). -/
  st : FsmState
  /-- The model's own: position in a unit operation (log 6). -/
  upos : UnitPos
  /-- `AX` (R13). -/
  ax : Word32
  /-- `AY` (R13). -/
  ay : Word32
  /-- `AXIS` (R17). -/
  axis : Axis
  /-- `P` (R17). -/
  p : Index
  /-- `TIER` (R17). -/
  tier : Tier
  /-- `CNT` (R17). -/
  cnt : BitVec 3
  /-- `NUM` (R17, R18). -/
  num : Word32
  /-- `FX` (R17). -/
  fx : Word32
  /-- `FY` (R17). -/
  fy : Word32
  /-- `OSR` (R17, R104). -/
  osr : BitVec 30
  /-- `OCNT` (R17). -/
  ocnt : BitVec 3
  /-- `RES` (R17). -/
  res : Word64
  /-- `RESV` (R16). -/
  resv : Bool
  /-- `DONE` (R16). -/
  doneFlag : Bool
  /-- `ERR` (R16). -/
  err : ErrCode
  /-- `CUR` (R15). -/
  cur : Nat
  /-- The latched `cmd_op`, `OPA`, `OPB` (R143). -/
  cmd : Command
  /-- SI, head first (R35). -/
  si : List (Item Char8)
  /-- PI, head first (R35). -/
  pi : List (Item Point)
  /-- SO: pushed and not yet taken by the host, head first (R37). -/
  so : List Char8
  /-- PO: pushed and not yet taken by the host, head first (R37). -/
  po : List Point
  /-- The command the host presents: `cmd_valid`, `cmd_op`, `cmd_opa`, `cmd_opb` (R170). -/
  port : Option Command
  /-- The line `rst` (R170, R200). -/
  rst : Bool
  /-- The line `so_ready`: the host's sink takes a character (R170, R37). -/
  soReady : Bool
  /-- The line `po_ready`: the host's sink takes a point (R170, R37). -/
  poReady : Bool
  /-- The model's own: how many `ANY32` values have been drawn (R116; log 4). -/
  draws : Nat
  deriving DecidableEq, Repr

/-- The machine right after reset: every register at the value of R200. The latched command (log 5), the streams and the
host's lines (log 7) and the model's own fields (logs 4, 6) are DESIGN CHOICEs, unsafe where a statement rests on them. -/
def State.reset : State where
  st := .idle
  upos := .entry
  ax := 0
  ay := 0
  axis := .x
  p := 0
  tier := .small
  cnt := 0
  num := 0
  fx := 0
  fy := 0
  osr := 0
  ocnt := 0
  res := 0
  resv := false
  doneFlag := false
  err := .none
  cur := 0
  cmd := ⟨0, 0, 0⟩
  si := []
  pi := []
  so := []
  po := []
  port := none
  rst := false
  soReady := true
  poReady := true
  draws := 0

end Machine
end Sys2Proof
end

