-- ==== Sys2Proof/Machine/Flags.lean ====
section
/-! DEFINITION. The status flags `DONE`, `ERR`, `RESV` and the result register `RES` (spec/10_state.md R16). The hardware has
no arithmetic condition codes (R16). -/

namespace Sys2Proof
namespace Machine

/-- A unit operation returns a value: `RES` is written whole and `RESV` is set (R16, R61). -/
def State.setResult (s : State) (r : Word64) : State := { s with res := r, resv := true }

/-- The normal end of an accepted command: `DONE <- 1`, `ST <- IDLE` (R16, R145, R147). -/
def State.endCommand (s : State) : State := { s with doneFlag := true, st := .idle, upos := .entry }

/-- What acceptance clears: `DONE`, `ERR`, `RESV` (R16, R143). -/
def State.clearFlags (s : State) : State := { s with doneFlag := false, err := .none, resv := false }

/-- The two bits of `ERR` on the port `err` (R16, R170). -/
def ErrCode.code : ErrCode → BitVec 2
  | .none => 0
  | .bufferExhausted => 1

end Machine
end Sys2Proof
end

