-- ==== Sys2Proof/Config.lean ====
section
/-! DEFINITION. What is fixed for the machine and is no state (spec/10_state.md R11): the Alphabet, the
constants of spec/00_scope.md R4, and the free value the spec leaves open (spec/43_coordinate_transform.md R116). -/

namespace Sys2Proof
namespace Config

/-- A table of the Alphabet: the configuration argument of R5 and R11, entry by entry an ASCII code (R72). -/
abbrev Table := List Ascii

/-- Entries 0 to 15 of R74: `0ABCD2EFGH4IJKLM`. -/
def alphabet00 : List Ascii :=
  [0x30, 0x41, 0x42, 0x43, 0x44, 0x32, 0x45, 0x46, 0x47, 0x48, 0x34, 0x49, 0x4A, 0x4B, 0x4C, 0x4D]

/-- Entries 16 to 31 of R74: `N6OPQRST8UVWXYZ-`. -/
def alphabet16 : List Ascii :=
  [0x4E, 0x36, 0x4F, 0x50, 0x51, 0x52, 0x53, 0x54, 0x38, 0x55, 0x56, 0x57, 0x58, 0x59, 0x5A, 0x2D]

/-- Entries 32 to 47 of R74: `1abcd3efgh5ijklm`. -/
def alphabet32 : List Ascii :=
  [0x31, 0x61, 0x62, 0x63, 0x64, 0x33, 0x65, 0x66, 0x67, 0x68, 0x35, 0x69, 0x6A, 0x6B, 0x6C, 0x6D]

/-- Entries 48 to 63 of R74: `n7opqrst9uvwxyz.`. -/
def alphabet48 : List Ascii :=
  [0x6E, 0x37, 0x6F, 0x70, 0x71, 0x72, 0x73, 0x74, 0x39, 0x75, 0x76, 0x77, 0x78, 0x79, 0x7A, 0x2E]

/-- The value of `ALPHABET` this hardware takes (R5, R70 to R74), read as index 0 to 63. What depends on the Alphabet takes it
as an argument (`romOf`, `revOf`, `decodeOf`, `encodeOf`, `execOf`, `stepOf`); `exec` and `step` are the case of this value
(log 28). PRESUMED for the 39 entries that R74 marks as general knowledge and unsafe there (log 3); the 25 entries of R73
follow from the source's vectors. -/
def alphabet : Table := alphabet00 ++ alphabet16 ++ alphabet32 ++ alphabet48

/-- The entries the source's own vectors fix, as (index, ASCII code): the table of R73. -/
def pinned : List (Nat × Ascii) :=
  [(0, 0x30), (4, 0x44), (5, 0x32), (7, 0x46), (8, 0x47), (9, 0x48), (12, 0x4A), (20, 0x51), (27, 0x57), (28, 0x58),
   (36, 0x64), (37, 0x33), (39, 0x66)] ++
  [(40, 0x67), (41, 0x68), (45, 0x6B), (46, 0x6C), (48, 0x6E), (50, 0x6F), (52, 0x71), (55, 0x74), (56, 0x39),
   (59, 0x77), (60, 0x78), (63, 0x2E)]

/-- What the source requires of any table: 64 entries (R70), pairwise distinct (R71), each an ASCII code (R72, here the
type), the 25 entries of R73 as given. The constraint on the configuration argument (R5). -/
def Admissible (tab : Table) : Prop :=
  tab.length = 64 ∧ tab.Nodup ∧ ∀ e ∈ pinned, tab[e.1]? = some e.2

/-- FIVE_MARK (R4, C1), binary 110000. -/
def fiveMark : Index := 0x30

/-- THREE_MARK (R4), binary 100000. -/
def threeMark : Index := 0x20

/-- SMALL_BIAS (R4): bias of the 2-symbol form. -/
def smallBias : Nat := 1024

/-- MED_BIAS (R4): bias of the 3-symbol form. -/
def medBias : Nat := 32768

/-- FULL_MASK (R4): mask of the absolute value in the 5-symbol form. -/
def fullMask : Word32 := 0x0FFFFFFF

/-- FIXED_BITS (R4): FIXED_ONE is 2 to this power. -/
def fixedBits : Nat := 28

/-- LON_OFFSET (R4). -/
def lonOffset : Nat := 180

/-- LON_SPAN (R4). -/
def lonSpan : Nat := 360

/-- LAT_OFFSET (R4). -/
def latOffset : Nat := 90

/-- LAT_SPAN (R4). -/
def latSpan : Nat := 180

/-- `ANY32` (R116, 93_implementation_defined.md U2): "an unspecified 32-bit value that a model must treat as a free draw".
No body: nothing about any of its values can be proved. The n-th draw of a run is `any32 n` (log 4; safe). -/
opaque any32 : Nat → Word32

end Config
end Sys2Proof
end

