-- ==== Sys2Proof/WellFormed.lean ====
section
/-! DEFINITION. Which instructions the encodings admit: the operand ranges of spec/30_encoding.md R52, R53, R58 and R61. -/

namespace Sys2Proof

/-- True of a character that is no entry of the table, compared on all eight bits (R58, R76). -/
def isFillerOf (tab : Config.Table) (c : Char8) : Bool := tab.all fun a => (0#1 ++ a : Char8) != c

/-- The fillers of this machine (R58 over the table of R74). -/
def isFiller (c : Char8) : Bool := isFillerOf Config.alphabet c

/-- The checks, one per operand the encoding restricts: ADDS -1024..1023 (R52), ADDM -32768..32767 (R53), SKIP only a
character outside the table (R58), RDNUM count 0..5 (R61). Every other operand fills its field. -/
def Instr.wellFormedOf (tab : Config.Table) : Instr → Bool
  | .adds d => decide (-1024 ≤ d ∧ d ≤ 1023)
  | .addm d => decide (-32768 ≤ d ∧ d ≤ 32767)
  | .skip c => isFillerOf tab c
  | .rdnum n => decide (n ≤ 5#3)
  | .setf _ | .nop | .symof _ | .idxof _ | .decnum | .wrnum _ _ | .tofixx _ | .tofixy _
  | .todegx _ | .todegy _ | .aclr | .aadd _ _ | .aload _ _ | .adiff _ _ | .decode | .encode
  | .sym00 | .sym01 | .sym02 | .sym03 | .sym04 | .sym05 | .sym06 | .sym07
  | .sym08 | .sym09 | .sym10 | .sym11 | .sym12 | .sym13 | .sym14 | .sym15
  | .sym16 | .sym17 | .sym18 | .sym19 | .sym20 | .sym21 | .sym22 | .sym23
  | .sym24 | .sym25 | .sym26 | .sym27 | .sym28 | .sym29 | .sym30 | .sym31
  | .sym32 | .sym33 | .sym34 | .sym35 | .sym36 | .sym37 | .sym38 | .sym39
  | .sym40 | .sym41 | .sym42 | .sym43 | .sym44 | .sym45 | .sym46 | .sym47
  | .sym48 | .sym49 | .sym50 | .sym51 | .sym52 | .sym53 | .sym54 | .sym55
  | .sym56 | .sym57 | .sym58 | .sym59 | .sym60 | .sym61 | .sym62 | .sym63 => true

/-- The checks over the table of R74. -/
def Instr.wellFormed (i : Instr) : Bool := i.wellFormedOf Config.alphabet

end Sys2Proof
end

