-- ==== Sys2Proof/Decode.lean ====
section
/-! DEFINITION. From bits to instructions and back: the alphabet ROM and its reverse (spec/40_symbol_rom.md R75, R76),
the length rule and the operand assembly of the number forms (spec/30_encoding.md R52 to R58), the command codes (R61),
a total decoder that rejects by name, the encoder, and the host's table-word entry point. -/

namespace Sys2Proof

/-! ## The alphabet ROM and the reverse table -/

/-- `ROM[i]` over a table: the 8-bit character with bit 7 zero and bits 6:0 the entry (R75). -/
def romOf (tab : Config.Table) (i : Index) : Char8 := (0#1 ++ tab.getD i.toNat 0#7 : BitVec 8)

/-- The position of character `c` in a table whose first entry has position `k`, compared on all eight bits (R76). -/
def findFrom (c : Char8) : List Ascii → Nat → Option Nat
  | [], _ => none
  | a :: tab, k => if (0#1 ++ a : BitVec 8) = c then some k else findFrom c tab (k + 1)

/-- `REV[c]` over a table: `some i` is (found = 1, index = i), `none` is NOT_FOUND (R76). -/
def revOf (tab : Config.Table) (c : Char8) : Option Index := (findFrom c tab 0).map (BitVec.ofNat 6)

/-- The ROM of this machine (R75 over the table of R74). -/
def rom (i : Index) : Char8 := romOf Config.alphabet i

/-- The reverse table of this machine (R76 over the table of R74). -/
def rev (c : Char8) : Option Index := revOf Config.alphabet c

/-! ## Characters as instructions -/

/-- The symbol instructions of indices 0 to 15. -/
def symTable00 : List Instr :=
  [.sym00, .sym01, .sym02, .sym03, .sym04, .sym05, .sym06, .sym07, .sym08, .sym09, .sym10, .sym11, .sym12, .sym13, .sym14, .sym15]

/-- The symbol instructions of indices 16 to 31. -/
def symTable16 : List Instr :=
  [.sym16, .sym17, .sym18, .sym19, .sym20, .sym21, .sym22, .sym23, .sym24, .sym25, .sym26, .sym27, .sym28, .sym29, .sym30, .sym31]

/-- The symbol instructions of indices 32 to 47. -/
def symTable32 : List Instr :=
  [.sym32, .sym33, .sym34, .sym35, .sym36, .sym37, .sym38, .sym39, .sym40, .sym41, .sym42, .sym43, .sym44, .sym45, .sym46, .sym47]

/-- The symbol instructions of indices 48 to 63. -/
def symTable48 : List Instr :=
  [.sym48, .sym49, .sym50, .sym51, .sym52, .sym53, .sym54, .sym55, .sym56, .sym57, .sym58, .sym59, .sym60, .sym61, .sym62, .sym63]

/-- The symbol instruction of an index: SYM_00 to SYM_63 (the list has an entry for each of the 64 indices). -/
def symInstr (i : Index) : Instr := (symTable00 ++ symTable16 ++ symTable32 ++ symTable48).getD i.toNat .nop

/-- The instruction one character stands for: the symbol of its index, or the filler SKIP (R50, R58). -/
def charInstrOf (tab : Config.Table) (c : Char8) : Instr :=
  match revOf tab c with
  | some i => symInstr i
  | none => .skip c

/-- The instruction a character stands for in this machine. -/
def charInstr (c : Char8) : Instr := charInstrOf Config.alphabet c

/-! ## Number forms -/

/-- The form, from the leading index alone, tested in this order (R56, R57). -/
def tierOf (p : Index) : Tier :=
  if p &&& Config.fiveMark = Config.fiveMark then .full
  else if p &&& Config.threeMark = Config.threeMark then .medium
  else .small

/-- The field of a number before its bias is removed, from the leading index and the value of the other symbols (R55). -/
def rawField (t : Tier) (p : Index) (e : Word32) : Word32 :=
  match t with
  | .small => ((p &&& 0x1F#6).setWidth 32 <<< 6) ||| (e.setWidth 6).setWidth 32
  | .medium => ((p &&& 0xF#6).setWidth 32 <<< 12) ||| (e.setWidth 12).setWidth 32
  | .full => ((p &&& 0xF#6).setWidth 32 <<< 24) ||| (e.setWidth 24).setWidth 32

/-- The payload DECNUM returns, a 32-bit two's-complement pattern (R55, R83). -/
def payloadOf (t : Tier) (p : Index) (e : Word32) : Word32 :=
  match t with
  | .small => rawField .small p e - BitVec.ofNat 32 Config.smallBias
  | .medium => rawField .medium p e - BitVec.ofNat 32 Config.medBias
  | .full => rawField .full p e

/-- The number form the latches `TIER`, `P`, `NUM` hold once all symbols of a number are read (R55, R84 to R86). -/
def formOf (t : Tier) (p : Index) (e : Word32) : Instr :=
  match t with
  | .small => .adds ((rawField .small p e).toNat - (Config.smallBias : Int))
  | .medium => .addm ((rawField .medium p e).toNat - (Config.medBias : Int))
  | .full => .setf ((rawField .full p e).setWidth 28)

/-- Why the decoder rejects. -/
inductive DecodeError where
  /-- An RDNUM command whose count is 6 or 7 (R61; 93_implementation_defined.md U6). -/
  | reservedCount
  /-- A text that ends inside a number (R180). -/
  | exhausted
  /-- Characters left over after the one number that was asked for. -/
  | leftover
  deriving DecidableEq, Repr

/-- `n` symbols from the front of a text, fillers skipped without counting (R80, R81), with what is left. -/
def takeSymbols (tab : Config.Table) : Nat → List Char8 → Except DecodeError (List Index × List Char8)
  | 0, cs => .ok ([], cs)
  | _ + 1, [] => .error .exhausted
  | n + 1, c :: cs =>
    match revOf tab c with
    | none => takeSymbols tab (n + 1) cs
    | some i =>
      match takeSymbols tab n cs with
      | .ok (is, rest) => .ok (i :: is, rest)
      | .error e => .error e

/-- Six bits a symbol, the first most significant: `result = (result << 6) | index` (R38, R80). -/
def joinSymbols (is : List Index) : Word32 := is.foldl (fun acc i => (acc <<< 6) ||| i.setWidth 32) 0#32

/-- One number from the front of a text: probe, length by the probe, the other symbols, the form (R55, R56). -/
def decodeNumber (tab : Config.Table) (cs : List Char8) : Except DecodeError (Instr × List Char8) :=
  match takeSymbols tab 1 cs with
  | .ok (p :: _, rest) =>
    match takeSymbols tab (tierOf p).extra rest with
    | .ok (es, rest') => .ok (formOf (tierOf p) p (joinSymbols es), rest')
    | .error e => .error e
  | .ok ([], _) => .error .exhausted
  | .error e => .error e

/-! ## Commands -/

/-- The operation `cmd_op` selects, with the operand bits R61 names; code 15 is the last arm. Every code is assigned
(R60); only the counts 6 and 7 of RDNUM are rejected. -/
def decodeCommand (c : Command) : Except DecodeError Instr :=
  match c.op.toNat with
  | 0 => .ok .nop
  | 1 => .ok (.symof (c.opa.setWidth 6))
  | 2 => .ok (.idxof (c.opa.setWidth 8))
  | 3 => if 5#3 < c.opa.setWidth 3 then .error .reservedCount else .ok (.rdnum (c.opa.setWidth 3))
  | 4 => .ok .decnum
  | 5 => .ok (.wrnum (c.opa.setWidth 32) (c.opb.setWidth 32))
  | 6 => .ok (.tofixx c.opa)
  | 7 => .ok (.tofixy c.opa)
  | 8 => .ok (.todegx (c.opa.setWidth 32))
  | 9 => .ok (.todegy (c.opa.setWidth 32))
  | 10 => .ok .aclr
  | 11 => .ok (.aadd (Axis.ofBit (c.opa.getLsbD 0)) (c.opb.setWidth 32))
  | 12 => .ok (.aload (Axis.ofBit (c.opa.getLsbD 0)) (c.opb.setWidth 32))
  | 13 => .ok (.adiff (Axis.ofBit (c.opa.getLsbD 0)) (c.opb.setWidth 32))
  | 14 => .ok .decode
  | _ => .ok .encode

/-! ## The decoder and the encoder -/

/-- What an instruction is written in: a command word, or characters of a text. -/
inductive Words where
  | command (c : Command)
  | text (cs : List Char8)
  deriving DecidableEq, Repr

/-- The decoder: a command by its code, a lone character as a symbol or a filler, a longer text as exactly one number. -/
def decodeOf (tab : Config.Table) : Words → Except DecodeError Instr
  | .command c => decodeCommand c
  | .text [c] => .ok (charInstrOf tab c)
  | .text cs =>
    match decodeNumber tab cs with
    | .ok (i, []) => .ok i
    | .ok (_, _ :: _) => .error .leftover
    | .error e => .error e

/-- The decoder of this machine. -/
def decode (ws : Words) : Except DecodeError Instr := decodeOf Config.alphabet ws

/-- The characters of a 12-bit word, most significant symbol first (R38, R52). -/
def symbols2 (tab : Config.Table) (w : BitVec 12) : List Char8 := [romOf tab (w.extractLsb' 6 6), romOf tab (w.extractLsb' 0 6)]

/-- The characters of an 18-bit word (R38, R53). -/
def symbols3 (tab : Config.Table) (w : BitVec 18) : List Char8 :=
  [romOf tab (w.extractLsb' 12 6), romOf tab (w.extractLsb' 6 6), romOf tab (w.extractLsb' 0 6)]

/-- The characters of a 30-bit word (R38, R54). -/
def symbols5 (tab : Config.Table) (w : BitVec 30) : List Char8 :=
  [romOf tab (w.extractLsb' 24 6), romOf tab (w.extractLsb' 18 6), romOf tab (w.extractLsb' 12 6), romOf tab (w.extractLsb' 6 6),
   romOf tab (w.extractLsb' 0 6)]

/-- The word of ADDS: marker 0, then the biased delta (R52). -/
def wordS2 (d : Int) : BitVec 12 := 0#1 ++ BitVec.ofInt 11 (d + Config.smallBias)

/-- The word of ADDM: marker binary 10, then the biased delta (R53). -/
def wordM3 (d : Int) : BitVec 18 := 0b10#2 ++ BitVec.ofInt 16 (d + Config.medBias)

/-- The word of SETF: marker binary 11, then the absolute value (R54). -/
def wordF5 (v : BitVec 28) : BitVec 30 := 0b11#2 ++ v

/-- A command word with the operand bits an operation does not name at zero (R60, R61). -/
def commandWord (op : BitVec 4) (opa : Word64 := 0) (opb : Word64 := 0) : Words := .command ⟨op, opa, opb⟩

/-- An axis in `OPA[0]` (R61). -/
def axisOperand (a : Axis) : Word64 := (BitVec.ofBool a.toBit).setWidth 64

/-- The encoder: the words of a well-formed instruction, from the tables of R52 to R54, R61 and R74. -/
def encodeOf (tab : Config.Table) : Instr → Words
  | .adds d => .text (symbols2 tab (wordS2 d))
  | .addm d => .text (symbols3 tab (wordM3 d))
  | .setf v => .text (symbols5 tab (wordF5 v))
  | .skip c => .text [c]
  | .nop => commandWord 0
  | .symof i => commandWord 1 (i.setWidth 64)
  | .idxof c => commandWord 2 (c.setWidth 64)
  | .rdnum n => commandWord 3 (n.setWidth 64)
  | .decnum => commandWord 4
  | .wrnum d a => commandWord 5 (d.setWidth 64) (a.setWidth 64)
  | .tofixx lon => commandWord 6 lon
  | .tofixy lat => commandWord 7 lat
  | .todegx n => commandWord 8 (n.setWidth 64)
  | .todegy n => commandWord 9 (n.setWidth 64)
  | .aclr => commandWord 10
  | .aadd a d => commandWord 11 (axisOperand a) (d.setWidth 64)
  | .aload a v => commandWord 12 (axisOperand a) (v.setWidth 64)
  | .adiff a x => commandWord 13 (axisOperand a) (x.setWidth 64)
  | .decode => commandWord 14
  | .encode => commandWord 15
  | .sym00 => .text [romOf tab 0]
  | .sym01 => .text [romOf tab 1]
  | .sym02 => .text [romOf tab 2]
  | .sym03 => .text [romOf tab 3]
  | .sym04 => .text [romOf tab 4]
  | .sym05 => .text [romOf tab 5]
  | .sym06 => .text [romOf tab 6]
  | .sym07 => .text [romOf tab 7]
  | .sym08 => .text [romOf tab 8]
  | .sym09 => .text [romOf tab 9]
  | .sym10 => .text [romOf tab 10]
  | .sym11 => .text [romOf tab 11]
  | .sym12 => .text [romOf tab 12]
  | .sym13 => .text [romOf tab 13]
  | .sym14 => .text [romOf tab 14]
  | .sym15 => .text [romOf tab 15]
  | .sym16 => .text [romOf tab 16]
  | .sym17 => .text [romOf tab 17]
  | .sym18 => .text [romOf tab 18]
  | .sym19 => .text [romOf tab 19]
  | .sym20 => .text [romOf tab 20]
  | .sym21 => .text [romOf tab 21]
  | .sym22 => .text [romOf tab 22]
  | .sym23 => .text [romOf tab 23]
  | .sym24 => .text [romOf tab 24]
  | .sym25 => .text [romOf tab 25]
  | .sym26 => .text [romOf tab 26]
  | .sym27 => .text [romOf tab 27]
  | .sym28 => .text [romOf tab 28]
  | .sym29 => .text [romOf tab 29]
  | .sym30 => .text [romOf tab 30]
  | .sym31 => .text [romOf tab 31]
  | .sym32 => .text [romOf tab 32]
  | .sym33 => .text [romOf tab 33]
  | .sym34 => .text [romOf tab 34]
  | .sym35 => .text [romOf tab 35]
  | .sym36 => .text [romOf tab 36]
  | .sym37 => .text [romOf tab 37]
  | .sym38 => .text [romOf tab 38]
  | .sym39 => .text [romOf tab 39]
  | .sym40 => .text [romOf tab 40]
  | .sym41 => .text [romOf tab 41]
  | .sym42 => .text [romOf tab 42]
  | .sym43 => .text [romOf tab 43]
  | .sym44 => .text [romOf tab 44]
  | .sym45 => .text [romOf tab 45]
  | .sym46 => .text [romOf tab 46]
  | .sym47 => .text [romOf tab 47]
  | .sym48 => .text [romOf tab 48]
  | .sym49 => .text [romOf tab 49]
  | .sym50 => .text [romOf tab 50]
  | .sym51 => .text [romOf tab 51]
  | .sym52 => .text [romOf tab 52]
  | .sym53 => .text [romOf tab 53]
  | .sym54 => .text [romOf tab 54]
  | .sym55 => .text [romOf tab 55]
  | .sym56 => .text [romOf tab 56]
  | .sym57 => .text [romOf tab 57]
  | .sym58 => .text [romOf tab 58]
  | .sym59 => .text [romOf tab 59]
  | .sym60 => .text [romOf tab 60]
  | .sym61 => .text [romOf tab 61]
  | .sym62 => .text [romOf tab 62]
  | .sym63 => .text [romOf tab 63]

/-- The encoder of this machine. -/
def encode (i : Instr) : Words := encodeOf Config.alphabet i

/-! ## The opcode table's numbering of words -/

/-- The words a number of `nbits` bits in the opcode table stands for. Eight bits hold a 4-bit command code (values below
16, operands zero) or a character (the others): the table gives both the same width, and a character code below 16 is read
as the command (log 2). 16, 24 and 32 bits hold the 12-, 18- and 30-bit words of S2, M3, F5, laid out as the text's
characters, the first symbol from the most significant six bits (R38). -/
def tableWords (nbits w : Nat) : Option Words :=
  if nbits ≤ 8 then
    if w < 16 then some (.command ⟨BitVec.ofNat 4 w, 0, 0⟩)
    else if w < 256 then some (.text [BitVec.ofNat 8 w])
    else none
  else if nbits ≤ 16 then
    if w < 2 ^ 12 then some (.text (symbols2 Config.alphabet (BitVec.ofNat 12 w))) else none
  else if nbits ≤ 24 then
    if w < 2 ^ 18 then some (.text (symbols3 Config.alphabet (BitVec.ofNat 18 w))) else none
  else
    if w < 2 ^ 30 then some (.text (symbols5 Config.alphabet (BitVec.ofNat 30 w))) else none

/-- The instruction the decoder reads from a table word. -/
def decodeTableWord (nbits w : Nat) : Option Instr :=
  match tableWords nbits w with
  | none => none
  | some ws =>
    match decode ws with
    | .ok i => some i
    | .error _ => none

end Sys2Proof
end

