-- ==== Sys2Proof/Machine/Float64.lean ====
section
/-! DEFINITION. The binary64 arithmetic the coordinate transform rests on (spec/43_coordinate_transform.md R110 to R112,
spec/00_scope.md R7): exact integers and one rounding per operation. The layout and the rounding are PRESUMED
(G2; log 23). -/

namespace Sys2Proof
namespace Machine

/-- A binary64 value (R110): NaN, an infinity, or the finite number (-1)^neg * mant * 2^exp. The bits of a NaN are not
kept: no operation of the hardware shows them (log 14). -/
inductive F64 where
  | nan
  | inf (neg : Bool)
  | fin (neg : Bool) (mant : Nat) (exp : Int)
  deriving DecidableEq, Repr

/-- The value a 64-bit pattern encodes: sign bit 63, exponent bits 62:52 with bias 1023, fraction bits 51:0 (R110). -/
def unpack (w : Word64) : F64 :=
  let neg := w.getLsbD 63
  let e := (w.extractLsb' 52 11).toNat
  let f := (w.extractLsb' 0 52).toNat
  if e = 2047 then (if f = 0 then .inf neg else .nan)
  else if e = 0 then .fin neg f (-1074)
  else .fin neg (2 ^ 52 + f) ((e : Int) - 1075)

/-- The 64-bit pattern of a sign, a biased exponent and a fraction (R110). -/
def packFields (neg : Bool) (e f : Nat) : Word64 :=
  BitVec.ofBool neg ++ (BitVec.ofNat 11 e ++ BitVec.ofNat 52 f)

/-- The pattern of a value as `roundTo64` gives it: a mantissa below 2^53, and below 2^52 only with exponent -1074. A NaN
never reaches a port; the quiet NaN stands here only to make the function total (log 14). -/
def pack : F64 → Word64
  | .nan => packFields false 2047 (2 ^ 51)
  | .inf neg => packFields neg 2047 0
  | .fin neg m q => if m < 2 ^ 52 then packFields neg 0 m else packFields neg (q + 1075).toNat (m - 2 ^ 52)

/-- n * 2^k for k ≥ 0, and n otherwise. -/
def scaleUp (n : Nat) (k : Int) : Nat := n * 2 ^ k.toNat

/-- The integer part of log2 (n / d), for n and d not 0. -/
def floorLog2 (n d : Nat) : Int :=
  let k : Int := (Nat.log2 n : Int) - (Nat.log2 d : Int)
  if scaleUp d k ≤ scaleUp n (-k) then k else k - 1

/-- The quotient of two naturals rounded to the nearest natural, a half to the even one (R7). -/
def divNearestEven (n d : Nat) : Nat :=
  let q := n / d
  let r := n % d
  if d < 2 * r ∨ (2 * r = d ∧ q % 2 = 1) then q + 1 else q

/-- `RNE64` (R7) of the real number (-1)^neg * (n / d) * 2^e, for d not 0: the binary64 value nearest to it, ties to an even
significand, overflow to infinity. The unit in the last place is 2^q, with q = floor(log2 of the number) - 52 and never
below -1074. -/
def roundTo64 (neg : Bool) (n d : Nat) (e : Int) : F64 :=
  if n = 0 then .fin neg 0 (-1074)
  else
    let q := max (floorLog2 n d + e - 52) (-1074)
    let m := divNearestEven (scaleUp n (e - q)) (scaleUp d (q - e))
    let mq : Nat × Int := if m = 2 ^ 53 then (2 ^ 52, q + 1) else (m, q)
    if 971 < mq.2 then .inf neg else .fin neg mq.1 mq.2

/-- A finite number's signed mantissa at a smaller or equal exponent e'. -/
def signedAt (neg : Bool) (m : Nat) (e e' : Int) : Int :=
  let v : Int := scaleUp m (e - e')
  if neg then -v else v

/-- `fadd` (R7, R111). An exact sum of zero is +0 unless both operands are negative (IEEE 754 under round to nearest). -/
def fadd : F64 → F64 → F64
  | .nan, _ => .nan
  | _, .nan => .nan
  | .inf a, .inf b => if a = b then .inf a else .nan
  | .inf a, .fin _ _ _ => .inf a
  | .fin _ _ _, .inf b => .inf b
  | .fin n1 m1 e1, .fin n2 m2 e2 =>
    let e := min e1 e2
    let z := signedAt n1 m1 e1 e + signedAt n2 m2 e2 e
    if z = 0 then .fin (n1 && n2) 0 (-1074) else roundTo64 (decide (z < 0)) z.natAbs 1 e

/-- The value with the other sign. -/
def fneg : F64 → F64
  | .nan => .nan
  | .inf a => .inf (!a)
  | .fin n m e => .fin (!n) m e

/-- `fsub` (R7, R111). -/
def fsub (a b : F64) : F64 := fadd a (fneg b)

/-- `fmul` (R7, R111). -/
def fmul : F64 → F64 → F64
  | .nan, _ => .nan
  | _, .nan => .nan
  | .inf a, .inf b => .inf (xor a b)
  | .inf a, .fin b m _ => if m = 0 then .nan else .inf (xor a b)
  | .fin a m _, .inf b => if m = 0 then .nan else .inf (xor a b)
  | .fin n1 m1 e1, .fin n2 m2 e2 => roundTo64 (xor n1 n2) (m1 * m2) 1 (e1 + e2)

/-- `fdiv` (R7, R111). -/
def fdiv : F64 → F64 → F64
  | .nan, _ => .nan
  | _, .nan => .nan
  | .inf _, .inf _ => .nan
  | .inf a, .fin b _ _ => .inf (xor a b)
  | .fin a _ _, .inf b => .fin (xor a b) 0 (-1074)
  | .fin n1 m1 e1, .fin n2 m2 e2 =>
    if m2 = 0 then (if m1 = 0 then .nan else .inf (xor n1 n2))
    else roundTo64 (xor n1 n2) m1 m2 (e1 - e2)

/-- `i2f` (R117): an integer as a binary64 value, for magnitudes below 2^53, where it is exact. -/
def ofInt (z : Int) : F64 := .fin (decide (z < 0)) z.natAbs 0

/-- `round_away` (R112): the nearest integer to the finite value (-1)^neg * m * 2^e, a half away from zero. -/
def roundAway (neg : Bool) (m : Nat) (e : Int) : Int :=
  let mag : Nat := if 0 ≤ e then scaleUp m e else (2 * m + 2 ^ (-e).toNat) / 2 ^ ((-e).toNat + 1)
  if neg then -(mag : Int) else mag

end Machine
end Sys2Proof
end

