-- ==== Sys2Proof/Machine/Operands.lean ====
section
/-! DEFINITION. The operand forms: what the encoder shifts out for a delta and an absolute value (spec/42_number_encoder.md
R100 to R106), the transform of a coordinate each way (spec/43_coordinate_transform.md R113 to R118), the accumulator an
axis names (spec/10_state.md R13). -/

namespace Sys2Proof
namespace Machine

/-- `ACC[a]` (R13). -/
def State.acc (s : State) : Axis → Word32
  | .x => s.ax
  | .y => s.ay

/-- The state with `ACC[a] <- v`, the other accumulator unchanged (R132, R133). -/
def State.setAcc (s : State) (a : Axis) (v : Word32) : State :=
  match a with
  | .x => { s with ax := v }
  | .y => { s with ay := v }

/-- The tier WRNUM picks, by signed comparisons on the delta (R100, R105, R106). -/
def tierOfDelta (d : Word32) : Tier :=
  if -1024 ≤ d.toInt ∧ d.toInt < 1024 then .small
  else if -32768 ≤ d.toInt ∧ d.toInt < 32768 then .medium
  else .full

/-- The word WRNUM emits, left-aligned in 30 bits as `OSR` holds it (R101 to R104). -/
def encoderWord (d a : Word32) : BitVec 30 :=
  match tierOfDelta d with
  | .small => BitVec.ofInt 30 (d.toInt + Config.smallBias) <<< 18
  | .medium => (0x20000#30 ||| BitVec.ofInt 30 (d.toInt + Config.medBias)) <<< 12
  | .full => 0x30000000#30 ||| (a &&& Config.fullMask).setWidth 30

/-- How many symbols WRNUM emits: 2, 3 or 5 (R100, R105). -/
def encoderCount (d : Word32) : BitVec 3 := BitVec.ofNat 3 ((tierOfDelta d).extra + 1)

/-- `OSR[29:24]`: the index of the next symbol to emit (R104). -/
def nextIndex (osr : BitVec 30) : Index := osr.extractLsb' 24 6

/-- `(x + offset) * 2^28 / span`, one rounding per operation and left to right, then halves away from zero; `none` where the
result is NaN, infinite or outside s32, which is `ANY32` (R113, R114, R116). -/
def toFixed (w : Word64) (offset span : Nat) : Option Word32 :=
  let t1 := fadd (unpack w) (ofInt offset)
  let t2 := fmul t1 (ofInt (2 ^ Config.fixedBits))
  let t3 := fdiv t2 (ofInt span)
  match t3 with
  | .nan => none
  | .inf _ => none
  | .fin neg m e =>
    let n := roundAway neg m e
    if n < -2 ^ 31 ∨ 2 ^ 31 - 1 < n then none else some (BitVec.ofInt 32 n)

/-- The value of TOFIXX where the formula gives one (R113). -/
def toFixedX (lon : Word64) : Option Word32 := toFixed lon Config.lonOffset Config.lonSpan

/-- The value of TOFIXY where the formula gives one (R114). -/
def toFixedY (lat : Word64) : Option Word32 := toFixed lat Config.latOffset Config.latSpan

/-- `RNE64(n * span / 2^28 - offset)` with n read as s32; a value of zero is +0.0 (R117, R118; log 15). -/
def toDegrees (n : Word32) (span offset : Nat) : Word64 :=
  let z : Int := n.toInt * span - offset * 2 ^ Config.fixedBits
  pack (roundTo64 (decide (z < 0)) z.natAbs 1 (-(Config.fixedBits : Int)))

/-- TODEGX's value (R117). -/
def toDegreesX (n : Word32) : Word64 := toDegrees n Config.lonSpan Config.lonOffset

/-- TODEGY's value (R118). -/
def toDegreesY (n : Word32) : Word64 := toDegrees n Config.latSpan Config.latOffset

end Machine
end Sys2Proof
end

