-- ==== Sys2Proof/Machine/Ops.lean ====
section
/-! DEFINITION. The shared operations: command acceptance (spec/45_sequence_fsm.md R142, R143, R146), taking the exception
BufferExhausted (spec/60_exceptions.md R181), reading symbols (spec/41_number_decoder.md R80, R81, R83), applying a number
(R154), emitting symbols (spec/42_number_encoder.md R100, R104), the free value (spec/43_coordinate_transform.md R116). -/

namespace Sys2Proof
namespace Machine

/-- The outcome of a step of this hardware. -/
abbrev Result := Host.Outcome State Fault Refusal

/-! ## Streams -/

/-- The stream without its head, if the head is `END` (R36). -/
def dropEnd {α : Type} : List (Item α) → List (Item α)
  | .endTok :: rest => rest
  | items => items

/-- `SI.pop()` of the head character, the rest of SI given: `CUR` advances by one (R36). -/
def State.popSI (s : State) (rest : List (Item Char8)) : State := { s with si := rest, cur := s.cur + 1 }

/-- `PI.pop()` of the head point, the rest of PI given (R36). -/
def State.popPI (s : State) (rest : List (Item Point)) : State := { s with pi := rest, cur := s.cur + 1 }

/-- `SO.push(c)` (R37). -/
def State.pushSO (s : State) (c : Char8) : State := { s with so := s.so ++ [c] }

/-- `PO.push(pt)` (R37). -/
def State.pushPO (s : State) (pt : Point) : State := { s with po := s.po ++ [pt] }

/-! ## Taking the exception -/

/-- `raise BufferExhausted` (R181): `ERR <- 1`, `DONE <- 1`, `END` removed from SI, `ST <- IDLE`; nothing else changes. There
is no handler, no saved state and no return: the next command's acceptance clears `ERR` and `DONE` (R185, `acceptAs`). -/
def raiseBufferExhausted (s : State) : State :=
  { s with err := .bufferExhausted, doneFlag := true, si := dropEnd s.si, st := .idle, upos := .entry }

/-! ## Command acceptance -/

/-- Acceptance of command `c` into state `st'` (R143): flags and `CUR` cleared, `cmd_op`, `OPA`, `OPB` latched, `ST` set; the
port's transfer is over (R170; log 24). -/
def acceptAs (st' : FsmState) (c : Command) (s : State) : State :=
  { s.clearFlags with cur := 0, cmd := c, st := st', upos := .entry, port := none }

/-- `ACLR` (R131): both accumulators to 0. -/
def clearAccumulators (s : State) : State := { s with ax := 0, ay := 0 }

/-- The pass start (R146). -/
def passStart (s : State) : State :=
  { clearAccumulators s with
    axis := .x, p := 0, tier := .small, cnt := 0, num := 0, fx := 0, fy := 0, osr := 0, ocnt := 0 }

/-- A unit operation's handling of `ST` (R142, R143, R145): accepted in `IDLE`, run in `UNIT`, not looked at elsewhere. -/
def unitCommand (run : State → Result) (s : State) : Result :=
  match s.st with
  | .idle =>
    match s.port with
    | some c => .next (acceptAs .unit c s)
    | none => .next s
  | .unit => run s
  | .dNext | .dProbe | .dExtra | .dApply | .dEmit => .next s
  | .eNext | .eNumX | .eShX | .eNumY | .eShY | .eUpd => .next s

/-- Acceptance of a pass in `IDLE` (R143, R146): nothing without a command on the port. -/
def acceptPass (st' : FsmState) (s : State) : Result :=
  match s.port with
  | some c => .next (passStart (acceptAs st' c s))
  | none => .next s

/-! ## Reading symbols -/

/-- What a valid symbol does to `NUM` and `CNT` (R80, R153). -/
def shiftIn (i : Index) (s : State) : State :=
  { s with num := (s.num <<< 6) ||| i.setWidth 32, cnt := s.cnt - 1 }

/-- The state after a symbol was shifted in: `fin` follows once no symbol is left to read (R80, R153). -/
def afterShift (fin : State → State) (t : State) : State := if t.cnt = 0#3 then fin t else t

/-- What the probe's symbol does to the latches (R83, R152; log 11). -/
def latchProbe (i : Index) (s : State) : State :=
  { s with p := i, tier := tierOf i, cnt := BitVec.ofNat 3 (tierOf i).extra, num := 0 }

/-- The end of RDNUM (R80): `RES <- zext_64(NUM)`. -/
def finishRdnum (s : State) : State := (s.setResult (s.num.setWidth 64)).endCommand

/-- The end of DECNUM (R83): `RES[33:32] <- TIER`, `RES[31:0] <- payload`, the other bits 0. -/
def finishDecnum (s : State) : State :=
  (s.setResult ((s.tier.code ++ payloadOf s.tier s.p s.num).setWidth 64)).endCommand

/-- The symbol of index `i` is at the head of SI and a reader meets it: `D_PROBE` (R152), `D_EXTRA` (R153), or RDNUM or DECNUM
in `UNIT` (R80, R83). Where nothing reads, or no character is there, nothing happens (R211; log 8). -/
def consumeSymbol (i : Index) (s : State) : Result :=
  match s.si with
  | .data _ :: rest =>
    match s.st, s.upos with
    | .dProbe, _ => .next { latchProbe i (s.popSI rest) with st := .dExtra }
    | .dExtra, _ => .next (afterShift (fun t => { t with st := .dApply }) (shiftIn i (s.popSI rest)))
    | .unit, .read => .next (afterShift finishRdnum (shiftIn i (s.popSI rest)))
    | .unit, .probe => .next { latchProbe i (s.popSI rest) with upos := .extra }
    | .unit, .extra => .next (afterShift finishDecnum (shiftIn i (s.popSI rest)))
    | .unit, .entry | .unit, .shift => .next s
    | .idle, _ | .dNext, _ | .dApply, _ | .dEmit, _ => .next s
    | .eNext, _ | .eNumX, _ | .eShX, _ | .eNumY, _ | .eShY, _ | .eUpd, _ => .next s
  | .endTok :: _ => .next s
  | [] => .next s

/-- A filler is at the head of SI and a reader meets it: one pop and nothing else (R81, R87, R152, R153). -/
def consumeFiller (s : State) : Result :=
  match s.si with
  | .data _ :: rest =>
    match s.st, s.upos with
    | .dProbe, _ | .dExtra, _ => .next (s.popSI rest)
    | .unit, .read | .unit, .probe | .unit, .extra => .next (s.popSI rest)
    | .unit, .entry | .unit, .shift => .next s
    | .idle, _ | .dNext, _ | .dApply, _ | .dEmit, _ => .next s
    | .eNext, _ | .eNumX, _ | .eShX, _ | .eNumY, _ | .eShY, _ | .eUpd, _ => .next s
  | .endTok :: _ => .next s
  | [] => .next s

/-- One turn of a reader's loop (R80, R183): wait without an item, raise at `END`, else pop and look the character up. -/
def readStep (tab : Config.Table) (s : State) : Result :=
  match s.si with
  | [] => .next s
  | .endTok :: _ => .next (raiseBufferExhausted s)
  | .data c :: _ =>
    match revOf tab c with
    | some i => consumeSymbol i s
    | none => consumeFiller s

/-! ## Applying a number -/

/-- The end of `D_APPLY` (R154): after X the axis turns to Y, after Y the point is emitted. -/
def afterApply (s : State) : State :=
  match s.axis with
  | .x => { s with axis := .y, st := .dNext }
  | .y => { s with st := .dEmit }

/-- `AADD` on a state: `ACC[a] <- ACC[a] +32 d` (R130, R132). -/
def addToAcc (a : Axis) (d : Word32) (s : State) : State := s.setAcc a (s.acc a + d)

/-- A delta form in `D_APPLY` (R84, R85, R154). -/
def applyDelta (d : Word32) (s : State) : State := afterApply (addToAcc s.axis d s)

/-- The absolute form in `D_APPLY` (R86, R154). -/
def applyAbsolute (v : Word32) (s : State) : State := afterApply (s.setAcc s.axis v)

/-- `D_APPLY` from the latches (R154). -/
def applyLatches (s : State) : State :=
  match s.tier with
  | .full => applyAbsolute (payloadOf .full s.p s.num) s
  | .medium => applyDelta (payloadOf .medium s.p s.num) s
  | .small => applyDelta (payloadOf .small s.p s.num) s

/-! ## Emitting symbols -/

/-- The first part of WRNUM: tier choice, word, left-alignment (R100, R162). -/
def loadEncoder (d a : Word32) (s : State) : State := { s with osr := encoderWord d a, ocnt := encoderCount d }

/-- One turn of WRNUM's loop (R100, R163): push `ROM[OSR[29:24]]`, shift, count down. -/
def shiftOut (tab : Config.Table) (s : State) : State :=
  { s.pushSO (romOf tab (nextIndex s.osr)) with osr := s.osr <<< 6, ocnt := s.ocnt - 1 }

/-- The state after a symbol was pushed: `fin` follows once no symbol is left to emit (R100, R163). -/
def afterPush (fin : State → State) (t : State) : State := if t.ocnt = 0#3 then fin t else t

/-! ## The free value -/

/-- A transform's result: the formula's value, or a fresh `ANY32` where R116 leaves it open (log 4). -/
def fixedOr (r : Option Word32) (s : State) : Word32 × State :=
  match r with
  | some v => (v, s)
  | none => (Config.any32 s.draws, { s with draws := s.draws + 1 })

/-! ## Reset -/

/-- A clock edge with `rst` = 1 (R200, R201): every register to its reset value; the streams, the host's lines and the draw
counter keep theirs. -/
def resetRegisters (s : State) : State :=
  { State.reset with
    si := s.si, pi := s.pi, so := s.so, po := s.po, port := s.port, rst := s.rst,
    soReady := s.soReady, poReady := s.poReady, draws := s.draws }

end Machine
end Sys2Proof
end

