-- ==== Sys2Proof/Machine/Accumulator.lean ====
section
/-! DEFINITION. The delta accumulator's operations ACLR, AADD, ALOAD, ADIFF (spec/44_delta_accumulator.md R130 to R134). -/

namespace Sys2Proof
namespace Machine

/-- ACLR (R131): both accumulators to 0, `DONE <- 1`; `RES` and `RESV` are not written. -/
def execAclr (s : State) : Result := unitCommand (fun s => .next (clearAccumulators s).endCommand) s

/-- The end of an operation that returns the accumulator of axis `a` (R132, R133). -/
def returnAcc (a : Axis) (s : State) : State := (s.setResult ((s.acc a).setWidth 64)).endCommand

/-- AADD a, d (R132): `ACC[a] <- ACC[a] +32 d`, returned. -/
def execAadd (a : Axis) (d : Word32) (s : State) : Result :=
  unitCommand (fun s => .next (returnAcc a (addToAcc a d s))) s

/-- ALOAD a, v (R133): `ACC[a] <- v`, returned. -/
def execAload (a : Axis) (v : Word32) (s : State) : Result :=
  unitCommand (fun s => .next (returnAcc a (s.setAcc a v))) s

/-- ADIFF a, x (R134): `x -32 ACC[a]`, returned; no accumulator is written. -/
def execAdiff (a : Axis) (x : Word32) (s : State) : Result :=
  unitCommand (fun s => .next (s.setResult ((x - s.acc a).setWidth 64)).endCommand) s

end Machine
end Sys2Proof
end

