-- ==== Sys2Proof/Machine/Fsm.lean ====
section
/-! DEFINITION. The operations that act on the FSM as a whole: NOP, DECODE, ENCODE (spec/45_sequence_fsm.md R144, R150 to
R155, R160 to R165; the transition table R167). -/

namespace Sys2Proof
namespace Machine

/-- NOP (R144): in `IDLE` the command leaves the port and every register keeps its value. -/
def execNop (s : State) : Result :=
  match s.st with
  | .idle => .next { s with port := none }
  | .unit | .dNext | .dProbe | .dExtra | .dApply | .dEmit => .next s
  | .eNext | .eNumX | .eShX | .eNumY | .eShY | .eUpd => .next s

/-- `D_NEXT` (R151): the end test at a number boundary. -/
def decodeNext (s : State) : Result :=
  match s.si with
  | [] => .next s
  | .endTok :: rest => .next { s with si := rest }.endCommand
  | .data _ :: _ => .next { s with num := 0, cnt := 1, st := .dProbe }

/-- `D_EMIT` (R155): push the point, waiting for the sink. -/
def decodeEmit (s : State) : Result :=
  if s.poReady then
    .next { s.pushPO ⟨toDegreesX s.ax, toDegreesY s.ay⟩ with axis := .x, st := .dNext }
  else .next s

/-- DECODE (R150), one state a step (R151 to R155); acceptance in `IDLE` (R143, R146). -/
def execDecodeOf (tab : Config.Table) (s : State) : Result :=
  match s.st with
  | .idle => acceptPass .dNext s
  | .dNext => decodeNext s
  | .dProbe | .dExtra => readStep tab s
  | .dApply => .next (applyLatches s)
  | .dEmit => decodeEmit s
  | .unit | .eNext | .eNumX | .eShX | .eNumY | .eShY | .eUpd => .next s

/-- DECODE in this machine (R150). -/
def execDecode (s : State) : Result := execDecodeOf Config.alphabet s

/-- `E_NEXT` (R161): the end test at a point boundary, or pop a point and transform it. -/
def encodeNext (s : State) : Result :=
  match s.pi with
  | [] => .next s
  | .endTok :: rest => .next { s with pi := rest }.endCommand
  | .data pt :: rest =>
    let vx := fixedOr (toFixedX pt.x) (s.popPI rest)
    let vy := fixedOr (toFixedY pt.y) vx.2
    .next { vy.2 with fx := vx.1, fy := vy.1, st := .eNumX }

/-- `E_SHX` and `E_SHY` (R163, R164): push one symbol, waiting for the sink; `after` is where the last one leads. -/
def encodeShift (tab : Config.Table) (after : FsmState) (s : State) : Result :=
  if s.soReady then .next (afterPush (fun t => { t with st := after }) (shiftOut tab s)) else .next s

/-- ENCODE (R160), one state a step (R161 to R165); acceptance in `IDLE` (R143, R146). -/
def execEncodeOf (tab : Config.Table) (s : State) : Result :=
  match s.st with
  | .idle => acceptPass .eNext s
  | .eNext => encodeNext s
  | .eNumX => .next { loadEncoder (s.fx - s.ax) s.fx s with st := .eShX }
  | .eShX => encodeShift tab .eNumY s
  | .eNumY => .next { loadEncoder (s.fy - s.ay) s.fy s with st := .eShY }
  | .eShY => encodeShift tab .eUpd s
  | .eUpd => .next { s with ax := s.fx, ay := s.fy, st := .eNext }
  | .unit | .dNext | .dProbe | .dExtra | .dApply | .dEmit => .next s

/-- ENCODE in this machine (R160). -/
def execEncode (s : State) : Result := execEncodeOf Config.alphabet s

end Machine
end Sys2Proof
end

