-- ==== Sys2Proof/Machine/NumberCodec.lean ====
section
/-! DEFINITION. The variable-width number codec's operations RDNUM, DECNUM and WRNUM (spec/41_number_decoder.md R80 to R83,
spec/42_number_encoder.md R100 to R106). -/

namespace Sys2Proof
namespace Machine

/-- RDNUM in `UNIT` (R80): first `NUM <- 0; CNT <- n`, which ends it at once for n = 0, then one turn of the loop a step. -/
def runRdnum (tab : Config.Table) (n : BitVec 3) (s : State) : Result :=
  match s.upos with
  | .entry =>
    if n = 0#3 then .next (finishRdnum { s with num := 0, cnt := 0 })
    else .next { s with num := 0, cnt := n, upos := .read }
  | .read | .probe | .extra | .shift => readStep tab s

/-- RDNUM n (R80). Counts 6 and 7 are reserved and refused where the FSM would look at the command (U6, log 9). -/
def execRdnumOf (tab : Config.Table) (n : BitVec 3) (s : State) : Result :=
  if 5#3 < n ∧ (s.st = .idle ∨ s.st = .unit) then .refused .reservedCount else unitCommand (runRdnum tab n) s

/-- RDNUM n in this machine (R80). -/
def execRdnum (n : BitVec 3) (s : State) : Result := execRdnumOf Config.alphabet n s

/-- DECNUM in `UNIT` (R83): `RDNUM(1)` for the probe, then the symbols its tier asks for, one turn of the loop a step. -/
def runDecnum (tab : Config.Table) (s : State) : Result :=
  match s.upos with
  | .entry => .next { s with num := 0, cnt := 1, upos := .probe }
  | .read | .probe | .extra | .shift => readStep tab s

/-- DECNUM (R83). -/
def execDecnumOf (tab : Config.Table) (s : State) : Result := unitCommand (runDecnum tab) s

/-- DECNUM in this machine (R83). -/
def execDecnum (s : State) : Result := execDecnumOf Config.alphabet s

/-- The push loop of WRNUM, one symbol a step, waiting for the sink (R100, R37); `n` is the count it returns. -/
def pushLoop (tab : Config.Table) (n : BitVec 3) (s : State) : Result :=
  if s.soReady then .next (afterPush (fun t => (t.setResult (n.setWidth 64)).endCommand) (shiftOut tab s)) else .next s

/-- WRNUM in `UNIT` (R100): the tier choice and the word first, then the push loop. -/
def runWrnum (tab : Config.Table) (d a : Word32) (s : State) : Result :=
  match s.upos with
  | .entry => .next { loadEncoder d a s with upos := .shift }
  | .read | .probe | .extra | .shift => pushLoop tab (encoderCount d) s

/-- WRNUM d, a (R100). -/
def execWrnumOf (tab : Config.Table) (d a : Word32) (s : State) : Result := unitCommand (runWrnum tab d a) s

/-- WRNUM d, a in this machine (R100). -/
def execWrnum (d a : Word32) (s : State) : Result := execWrnumOf Config.alphabet d a s

end Machine
end Sys2Proof
end

