-- ==== Sys2Proof/Machine/NumberForms.lean ====
section
/-! DEFINITION. The number forms and the filler as DECODE executes them (spec/41_number_decoder.md R84 to R87,
spec/45_sequence_fsm.md R154). -/

namespace Sys2Proof
namespace Machine

/-- A number form acts in `D_APPLY` only (R154, R167); elsewhere it is not yet, or no longer, the FSM's business. -/
def inApply (act : State → State) (s : State) : Result :=
  match s.st with
  | .dApply => .next (act s)
  | .idle | .unit | .dNext | .dProbe | .dExtra | .dEmit => .next s
  | .eNext | .eNumX | .eShX | .eNumY | .eShY | .eUpd => .next s

/-- ADDS d (R84): `ACC[a] <- ACC[a] +32 sext_32(d)`. -/
def execAdds (d : Int) (s : State) : Result := inApply (applyDelta (BitVec.ofInt 32 d)) s

/-- ADDM d (R85): `ACC[a] <- ACC[a] +32 sext_32(d)`. -/
def execAddm (d : Int) (s : State) : Result := inApply (applyDelta (BitVec.ofInt 32 d)) s

/-- SETF v (R86): `ACC[a] <- zext_32(v)`. -/
def execSetf (v : BitVec 28) (s : State) : Result := inApply (applyAbsolute (v.setWidth 32)) s

/-- SKIP c (R87): `CUR <- CUR + 1`, nothing else; the character is popped and its code has no meaning. -/
def execSkip (_c : Char8) (s : State) : Result := consumeFiller s

end Machine
end Sys2Proof
end

