-- ==== Sys2Proof/Machine/SymbolCodec.lean ====
section
/-! DEFINITION. The symbol codec's operations SYMOF and IDXOF (spec/40_symbol_rom.md R77, R78). -/

namespace Sys2Proof
namespace Machine

/-- SYMOF i (R77): `RES <- zext_64(ROM[i])`, `RESV <- 1`, `DONE <- 1`. -/
def execSymofOf (tab : Config.Table) (i : Index) (s : State) : Result :=
  unitCommand (fun s => .next (s.setResult ((romOf tab i).setWidth 64)).endCommand) s

/-- SYMOF i in this machine (R77). -/
def execSymof (i : Index) (s : State) : Result := execSymofOf Config.alphabet i s

/-- `(f, i) = REV[c]; RES <- zext_64(i); RESV <- f` (R78); NOT_FOUND is (0, 0) (R76). -/
def lookupResult (tab : Config.Table) (c : Char8) (s : State) : State :=
  match revOf tab c with
  | some i => s.setResult (i.setWidth 64)
  | none => { s with res := 0, resv := false }

/-- IDXOF c (R78). -/
def execIdxofOf (tab : Config.Table) (c : Char8) (s : State) : Result :=
  unitCommand (fun s => .next (lookupResult tab c s).endCommand) s

/-- IDXOF c in this machine (R78). -/
def execIdxof (c : Char8) (s : State) : Result := execIdxofOf Config.alphabet c s

end Machine
end Sys2Proof
end

