-- ==== Sys2Proof/Machine/Symbols.lean ====
section
/-! DEFINITION. The 64 symbols of the Alphabet as a reader executes them: each carries its index (spec/30_encoding.md R50,
spec/40_symbol_rom.md R74, spec/41_number_decoder.md R80, R83, spec/45_sequence_fsm.md R152, R153). -/

namespace Sys2Proof
namespace Machine

/-- SYM_00 (R74): six bits, index 0. -/
def execSym00 (s : State) : Result := consumeSymbol 0 s

/-- SYM_01 (R74): six bits, index 1. -/
def execSym01 (s : State) : Result := consumeSymbol 1 s

/-- SYM_02 (R74): six bits, index 2. -/
def execSym02 (s : State) : Result := consumeSymbol 2 s

/-- SYM_03 (R74): six bits, index 3. -/
def execSym03 (s : State) : Result := consumeSymbol 3 s

/-- SYM_04 (R74): six bits, index 4. -/
def execSym04 (s : State) : Result := consumeSymbol 4 s

/-- SYM_05 (R74): six bits, index 5. -/
def execSym05 (s : State) : Result := consumeSymbol 5 s

/-- SYM_06 (R74): six bits, index 6. -/
def execSym06 (s : State) : Result := consumeSymbol 6 s

/-- SYM_07 (R74): six bits, index 7. -/
def execSym07 (s : State) : Result := consumeSymbol 7 s

/-- SYM_08 (R74): six bits, index 8. -/
def execSym08 (s : State) : Result := consumeSymbol 8 s

/-- SYM_09 (R74): six bits, index 9. -/
def execSym09 (s : State) : Result := consumeSymbol 9 s

/-- SYM_10 (R74): six bits, index 10. -/
def execSym10 (s : State) : Result := consumeSymbol 10 s

/-- SYM_11 (R74): six bits, index 11. -/
def execSym11 (s : State) : Result := consumeSymbol 11 s

/-- SYM_12 (R74): six bits, index 12. -/
def execSym12 (s : State) : Result := consumeSymbol 12 s

/-- SYM_13 (R74): six bits, index 13. -/
def execSym13 (s : State) : Result := consumeSymbol 13 s

/-- SYM_14 (R74): six bits, index 14. -/
def execSym14 (s : State) : Result := consumeSymbol 14 s

/-- SYM_15 (R74): six bits, index 15. -/
def execSym15 (s : State) : Result := consumeSymbol 15 s

/-- SYM_16 (R74): six bits, index 16. -/
def execSym16 (s : State) : Result := consumeSymbol 16 s

/-- SYM_17 (R74): six bits, index 17. -/
def execSym17 (s : State) : Result := consumeSymbol 17 s

/-- SYM_18 (R74): six bits, index 18. -/
def execSym18 (s : State) : Result := consumeSymbol 18 s

/-- SYM_19 (R74): six bits, index 19. -/
def execSym19 (s : State) : Result := consumeSymbol 19 s

/-- SYM_20 (R74): six bits, index 20. -/
def execSym20 (s : State) : Result := consumeSymbol 20 s

/-- SYM_21 (R74): six bits, index 21. -/
def execSym21 (s : State) : Result := consumeSymbol 21 s

/-- SYM_22 (R74): six bits, index 22. -/
def execSym22 (s : State) : Result := consumeSymbol 22 s

/-- SYM_23 (R74): six bits, index 23. -/
def execSym23 (s : State) : Result := consumeSymbol 23 s

/-- SYM_24 (R74): six bits, index 24. -/
def execSym24 (s : State) : Result := consumeSymbol 24 s

/-- SYM_25 (R74): six bits, index 25. -/
def execSym25 (s : State) : Result := consumeSymbol 25 s

/-- SYM_26 (R74): six bits, index 26. -/
def execSym26 (s : State) : Result := consumeSymbol 26 s

/-- SYM_27 (R74): six bits, index 27. -/
def execSym27 (s : State) : Result := consumeSymbol 27 s

/-- SYM_28 (R74): six bits, index 28. -/
def execSym28 (s : State) : Result := consumeSymbol 28 s

/-- SYM_29 (R74): six bits, index 29. -/
def execSym29 (s : State) : Result := consumeSymbol 29 s

/-- SYM_30 (R74): six bits, index 30. -/
def execSym30 (s : State) : Result := consumeSymbol 30 s

/-- SYM_31 (R74): six bits, index 31. -/
def execSym31 (s : State) : Result := consumeSymbol 31 s

/-- SYM_32 (R74): six bits, index 32. -/
def execSym32 (s : State) : Result := consumeSymbol 32 s

/-- SYM_33 (R74): six bits, index 33. -/
def execSym33 (s : State) : Result := consumeSymbol 33 s

/-- SYM_34 (R74): six bits, index 34. -/
def execSym34 (s : State) : Result := consumeSymbol 34 s

/-- SYM_35 (R74): six bits, index 35. -/
def execSym35 (s : State) : Result := consumeSymbol 35 s

/-- SYM_36 (R74): six bits, index 36. -/
def execSym36 (s : State) : Result := consumeSymbol 36 s

/-- SYM_37 (R74): six bits, index 37. -/
def execSym37 (s : State) : Result := consumeSymbol 37 s

/-- SYM_38 (R74): six bits, index 38. -/
def execSym38 (s : State) : Result := consumeSymbol 38 s

/-- SYM_39 (R74): six bits, index 39. -/
def execSym39 (s : State) : Result := consumeSymbol 39 s

/-- SYM_40 (R74): six bits, index 40. -/
def execSym40 (s : State) : Result := consumeSymbol 40 s

/-- SYM_41 (R74): six bits, index 41. -/
def execSym41 (s : State) : Result := consumeSymbol 41 s

/-- SYM_42 (R74): six bits, index 42. -/
def execSym42 (s : State) : Result := consumeSymbol 42 s

/-- SYM_43 (R74): six bits, index 43. -/
def execSym43 (s : State) : Result := consumeSymbol 43 s

/-- SYM_44 (R74): six bits, index 44. -/
def execSym44 (s : State) : Result := consumeSymbol 44 s

/-- SYM_45 (R74): six bits, index 45. -/
def execSym45 (s : State) : Result := consumeSymbol 45 s

/-- SYM_46 (R74): six bits, index 46. -/
def execSym46 (s : State) : Result := consumeSymbol 46 s

/-- SYM_47 (R74): six bits, index 47. -/
def execSym47 (s : State) : Result := consumeSymbol 47 s

/-- SYM_48 (R74): six bits, index 48. -/
def execSym48 (s : State) : Result := consumeSymbol 48 s

/-- SYM_49 (R74): six bits, index 49. -/
def execSym49 (s : State) : Result := consumeSymbol 49 s

/-- SYM_50 (R74): six bits, index 50. -/
def execSym50 (s : State) : Result := consumeSymbol 50 s

/-- SYM_51 (R74): six bits, index 51. -/
def execSym51 (s : State) : Result := consumeSymbol 51 s

/-- SYM_52 (R74): six bits, index 52. -/
def execSym52 (s : State) : Result := consumeSymbol 52 s

/-- SYM_53 (R74): six bits, index 53. -/
def execSym53 (s : State) : Result := consumeSymbol 53 s

/-- SYM_54 (R74): six bits, index 54. -/
def execSym54 (s : State) : Result := consumeSymbol 54 s

/-- SYM_55 (R74): six bits, index 55. -/
def execSym55 (s : State) : Result := consumeSymbol 55 s

/-- SYM_56 (R74): six bits, index 56. -/
def execSym56 (s : State) : Result := consumeSymbol 56 s

/-- SYM_57 (R74): six bits, index 57. -/
def execSym57 (s : State) : Result := consumeSymbol 57 s

/-- SYM_58 (R74): six bits, index 58. -/
def execSym58 (s : State) : Result := consumeSymbol 58 s

/-- SYM_59 (R74): six bits, index 59. -/
def execSym59 (s : State) : Result := consumeSymbol 59 s

/-- SYM_60 (R74): six bits, index 60. -/
def execSym60 (s : State) : Result := consumeSymbol 60 s

/-- SYM_61 (R74): six bits, index 61. -/
def execSym61 (s : State) : Result := consumeSymbol 61 s

/-- SYM_62 (R74): six bits, index 62. -/
def execSym62 (s : State) : Result := consumeSymbol 62 s

/-- SYM_63 (R74): six bits, index 63. -/
def execSym63 (s : State) : Result := consumeSymbol 63 s

end Machine
end Sys2Proof
end

