-- ==== Sys2Proof/Machine/Transform.lean ====
section
/-! DEFINITION. The coordinate transform's operations TOFIXX, TOFIXY, TODEGX, TODEGY
(spec/43_coordinate_transform.md R113 to R118). -/

namespace Sys2Proof
namespace Machine

/-- A fixed value, or the free value `ANY32`, as the result of a unit operation: `RES[31:0]`, the high half 0 (R113, R116). -/
def returnFixed (r : Option Word32) (s : State) : State :=
  let v := fixedOr r s
  (v.2.setResult (v.1.setWidth 64)).endCommand

/-- TOFIXX lon (R113). -/
def execTofixx (lon : Word64) (s : State) : Result := unitCommand (fun s => .next (returnFixed (toFixedX lon) s)) s

/-- TOFIXY lat (R114). -/
def execTofixy (lat : Word64) (s : State) : Result := unitCommand (fun s => .next (returnFixed (toFixedY lat) s)) s

/-- TODEGX n (R117). -/
def execTodegx (n : Word32) (s : State) : Result :=
  unitCommand (fun s => .next (s.setResult (toDegreesX n)).endCommand) s

/-- TODEGY n (R118). -/
def execTodegy (n : Word32) (s : State) : Result :=
  unitCommand (fun s => .next (s.setResult (toDegreesY n)).endCommand) s

end Machine
end Sys2Proof
end

