-- ==== Sys2Proof/Machine/Fetch.lean ====
section
/-! DEFINITION. What the FSM runs next: the command at the port, the latched command, the character at the head of SI, the
number in the latches, or the pass itself (spec/45_sequence_fsm.md R142, R145, R150 to R165, R167); and where the host's
table word is placed so that the very next step runs it (log 1). -/

namespace Sys2Proof
namespace Machine

/-- What the FSM finds to run. -/
inductive Fetched where
  /-- `IDLE` with no command on the port (R167, first row). -/
  | nothing
  /-- A command the decoder rejects. -/
  | rejected (e : DecodeError)
  /-- An instruction. -/
  | instr (i : Instr)
  deriving DecidableEq, Repr

/-- The decoder's answer for a command, as a fetch. -/
def fetchCommand (c : Command) : Fetched :=
  match decodeCommand c with
  | .ok i => .instr i
  | .error e => .rejected e

/-- The fetch: in `IDLE` the port, in `UNIT` the latched command, in `D_PROBE` and `D_EXTRA` the character at the head of SI
(the pass itself where there is none, to wait or to raise), in `D_APPLY` the number form the latches hold, in every other
state of a pass the pass. -/
def fetchOf (tab : Config.Table) (s : State) : Fetched :=
  match s.st with
  | .idle =>
    match s.port with
    | none => .nothing
    | some c => fetchCommand c
  | .unit => fetchCommand s.cmd
  | .dProbe | .dExtra =>
    match s.si with
    | .data c :: _ => .instr (charInstrOf tab c)
    | .endTok :: _ => .instr .decode
    | [] => .instr .decode
  | .dApply => .instr (formOf s.tier s.p s.num)
  | .dNext | .dEmit => .instr .decode
  | .eNext | .eNumX | .eShX | .eNumY | .eShY | .eUpd => .instr .encode

/-- The fetch of this machine. -/
def fetch (s : State) : Fetched := fetchOf Config.alphabet s

/-- The refusal of a rejected command. Of the decoder's errors only the reserved count can come from a command. -/
def refusalOf : DecodeError → Refusal
  | .reservedCount => .reservedCount
  | .exhausted => .reservedCount
  | .leftover => .reservedCount

/-- The latches as a reader leaves them for a number of leading index `p` and further symbols of value `e` (R152, R153). -/
def placeNumber (p : Index) (e : Word32) (s : State) : State :=
  { s with st := .dApply, upos := .entry, rst := false, p := p, tier := tierOf p, num := e, cnt := 0 }

/-- A command with operands of zeros placed so that the very next step runs it: a unit operation (codes 1 to 13) latched in
`UNIT`, as acceptance from an idle block leaves it (R143, R145); NOP, DECODE and ENCODE on the port of an idle block. -/
def placeCommand (op : BitVec 4) (s : State) : State :=
  if op = 0#4 ∨ op = 14#4 ∨ op = 15#4 then
    { s with st := .idle, upos := .entry, rst := false, port := some ⟨op, 0, 0⟩ }
  else { s with st := .unit, upos := .entry, rst := false, cmd := ⟨op, 0, 0⟩ }

/-- A character at the head of SI in `D_PROBE`, with the latches as `D_NEXT` leaves them (R151). -/
def placeChar (c : Char8) (s : State) : State :=
  { s with st := .dProbe, upos := .entry, rst := false, num := 0, cnt := 1, si := .data c :: s.si }

/-- The state whose very next step runs the table word: a command, a character, or a number in the latches in `D_APPLY`,
told apart as `tableWords` does. -/
def placeWord (nbits w : Nat) (s : State) : State :=
  if nbits ≤ 8 then
    if w < 16 then placeCommand (BitVec.ofNat 4 w) s else placeChar (BitVec.ofNat 8 w) s
  else if nbits ≤ 16 then placeNumber (BitVec.ofNat 6 (w / 2 ^ 6)) (BitVec.ofNat 32 (w % 2 ^ 6)) s
  else if nbits ≤ 24 then placeNumber (BitVec.ofNat 6 (w / 2 ^ 12)) (BitVec.ofNat 32 (w % 2 ^ 12)) s
  else placeNumber (BitVec.ofNat 6 (w / 2 ^ 24)) (BitVec.ofNat 32 (w % 2 ^ 24)) s

end Machine
end Sys2Proof
end

