-- ==== Sys2Proof/Machine/Step.lean ====
section
/-! DEFINITION. One step of the machine (spec/45_sequence_fsm.md R167). -/

namespace Sys2Proof
namespace Machine

/-- One step: the reset transition while `rst` is high, else what the FSM finds to run. With nothing to run the block holds
its registers (R167, R195, R211). -/
def step (s : State) : Host.Outcome State Fault Refusal :=
  if s.rst then .next (resetRegisters s)
  else
    match fetch s with
    | .nothing => .next s
    | .rejected e => .refused (refusalOf e)
    | .instr i => exec i s

/-- The state whose very next step runs the table word `w` of `nbits` bits (log 1). -/
def State.withFetchWord (s : State) (nbits w : Nat) : State := placeWord nbits w s

end Machine
end Sys2Proof
end

