-- ==== Sys2Proof/Machine/Configured.lean ====
section
/-! DEFINITION. The machine over its configuration argument `ALPHABET` (spec/00_scope.md R5, spec/10_state.md R11,
spec/92_eei_decisions.md D1): the step and the run of a block whose ROM and REV hold any table. `exec` and `step` are the case of
the table this hardware takes (R74); only seven commands and the fetch look at the table. -/

namespace Sys2Proof
namespace Machine

/-- One step of the FSM that runs instruction `i`, over the table `tab`. A symbol carries its index and a number form its
operand whatever the table is, so those instructions do what they do in `exec`. -/
def execOf (tab : Config.Table) (i : Instr) (s : State) : Result :=
  match i with
  | .symof k => execSymofOf tab k s
  | .idxof c => execIdxofOf tab c s
  | .rdnum n => execRdnumOf tab n s
  | .decnum => execDecnumOf tab s
  | .wrnum d a => execWrnumOf tab d a s
  | .decode => execDecodeOf tab s
  | .encode => execEncodeOf tab s
  | .adds _ | .addm _ | .setf _ | .skip _ | .nop | .tofixx _ | .tofixy _ | .todegx _ | .todegy _
  | .aclr | .aadd _ _ | .aload _ _ | .adiff _ _
  | .sym00 | .sym01 | .sym02 | .sym03 | .sym04 | .sym05 | .sym06 | .sym07
  | .sym08 | .sym09 | .sym10 | .sym11 | .sym12 | .sym13 | .sym14 | .sym15
  | .sym16 | .sym17 | .sym18 | .sym19 | .sym20 | .sym21 | .sym22 | .sym23
  | .sym24 | .sym25 | .sym26 | .sym27 | .sym28 | .sym29 | .sym30 | .sym31
  | .sym32 | .sym33 | .sym34 | .sym35 | .sym36 | .sym37 | .sym38 | .sym39
  | .sym40 | .sym41 | .sym42 | .sym43 | .sym44 | .sym45 | .sym46 | .sym47
  | .sym48 | .sym49 | .sym50 | .sym51 | .sym52 | .sym53 | .sym54 | .sym55
  | .sym56 | .sym57 | .sym58 | .sym59 | .sym60 | .sym61 | .sym62 | .sym63 => exec i s

/-- One step over the table `tab` (R167): the reset transition while `rst` is high, else what the FSM finds to run. -/
def stepOf (tab : Config.Table) (s : State) : Result :=
  if s.rst then .next (resetRegisters s)
  else
    match fetchOf tab s with
    | .nothing => .next s
    | .rejected e => .refused (refusalOf e)
    | .instr i => execOf tab i s

/-- `n` steps over the table `tab`, stopping at the first refusal. -/
def runOf (tab : Config.Table) : Nat → State → Result
  | 0, s => .next s
  | n + 1, s =>
    match stepOf tab s with
    | .next t => runOf tab n t
    | .fault r => .fault r
    | .refused r => .refused r

end Machine
end Sys2Proof
end

