-- ==== Sys2Proof/Machine/Status.lean ====
section
/-! DEFINITION. The output signals of the block as functions of its state (spec/45_sequence_fsm.md R170). -/

namespace Sys2Proof
namespace Machine

/-- `busy = (ST != IDLE)` (R141, R170). -/
def State.busy (s : State) : Bool := s.st != .idle

/-- `UNIT` inside RDNUM's or DECNUM's reading loop. -/
def State.unitReads (s : State) : Bool :=
  s.st == .unit && (s.upos == .read || s.upos == .probe || s.upos == .extra)

/-- `si_ready`: the block removes the head item of SI at this edge (R36, R151 to R153, R80). -/
def State.siReady (s : State) : Bool :=
  match s.si with
  | [] => false
  | .endTok :: _ => s.st == .dNext || s.st == .dProbe || s.st == .dExtra || s.unitReads
  | .data _ :: _ => s.st == .dProbe || s.st == .dExtra || s.unitReads

/-- `pi_ready`: the block removes the head item of PI at this edge (R36, R161). -/
def State.piReady (s : State) : Bool := s.st == .eNext && !s.pi.isEmpty

/-- `so_valid`: the block pushes a character (R163, R164, R100). -/
def State.soValid (s : State) : Bool :=
  s.st == .eShX || s.st == .eShY || (s.st == .unit && s.upos == .shift)

/-- `po_valid`: the block pushes a point (R155). -/
def State.poValid (s : State) : Bool := s.st == .dEmit

/-- A command that reads SI runs: DECODE (R150), or RDNUM or DECNUM in `UNIT` (R80, R83). -/
def State.runsOnSI (s : State) : Bool :=
  match s.st with
  | .dNext | .dProbe | .dExtra | .dApply | .dEmit => true
  | .unit => s.cmd.op == 3 || s.cmd.op == 4
  | .idle | .eNext | .eNumX | .eShX | .eNumY | .eShY | .eUpd => false

/-- A command that reads PI runs: ENCODE (R160). -/
def State.runsOnPI (s : State) : Bool :=
  match s.st with
  | .eNext | .eNumX | .eShX | .eNumY | .eShY | .eUpd => true
  | .idle | .unit | .dNext | .dProbe | .dExtra | .dApply | .dEmit => false

/-- The next step needs an item the host has not presented, or a sink that does not accept (R211). -/
def State.waits (s : State) : Bool :=
  ((s.st == .dNext || s.st == .dProbe || s.st == .dExtra || s.unitReads) && s.si.isEmpty) ||
    (s.st == .eNext && s.pi.isEmpty) || (s.soValid && !s.soReady) || (s.poValid && !s.poReady)

/-- The output signals of R170. -/
structure Outputs where
  cmdReady : Bool
  siReady  : Bool
  piReady  : Bool
  soValid  : Bool
  soChar   : Char8
  poValid  : Bool
  poX      : Word64
  poY      : Word64
  busy     : Bool
  doneOut  : Bool
  err      : BitVec 2
  resv     : Bool
  res      : Word64
  ax       : Word32
  ay       : Word32
  axis     : Bool
  deriving DecidableEq, Repr

/-- The signals at a state. `so_char`, `po_x`, `po_y` are what a push would carry; R170 gives them only as the item pushed, and
what they carry while `so_valid` or `po_valid` is 0 is a DESIGN CHOICE of the model, unsafe (log 25): the same expressions. -/
def outputsOf (tab : Config.Table) (s : State) : Outputs where
  cmdReady := !s.busy
  siReady := s.siReady
  piReady := s.piReady
  soValid := s.soValid
  soChar := romOf tab (nextIndex s.osr)
  poValid := s.poValid
  poX := toDegreesX s.ax
  poY := toDegreesY s.ay
  busy := s.busy
  doneOut := s.doneFlag
  err := s.err.code
  resv := s.resv
  res := s.res
  ax := s.ax
  ay := s.ay
  axis := s.axis.toBit

/-- The signals of this machine (R170; log 25). -/
def outputs (s : State) : Outputs := outputsOf Config.alphabet s

end Machine
end Sys2Proof
end

