-- ==== Sys2Proof/Machine/HostMoves.lean ====
section
/-! DEFINITION. What the host may do between two steps, when, with what effect, and of what kind (spec/70_reset_and_hazards.md R214). The
host can do nothing else to the state. -/

namespace Sys2Proof
namespace Machine

/-- The host's moves (R214), with the two sink-ready lines of R170 and the release of `rst`. -/
inductive HostMove where
  | present (c : Command)
  | withdraw
  | appendChar (c : Char8)
  | appendSIEnd
  | appendPoint (pt : Point)
  | appendPIEnd
  | takeSO
  | takePO
  | setSOReady (b : Bool)
  | setPOReady (b : Bool)
  | readStatus
  | assertReset
  | releaseReset
  deriving DecidableEq, Repr

/-- The effect of a move, `none` where R214 does not allow it: a command is withdrawn only while it is not accepted, that is
while `ST` is not `IDLE`; an output item is taken only from a stream that is not empty. Asserting `rst` has the effect of R200
at once and the line stays high until it is released (log 13).

DESIGN CHOICE (log 26): there is no move that drops an input item. R201, R213 and U15 leave the leftover items of an interrupted
command for the host to drop, R214 says that the host cannot withdraw an item already appended; the model follows R214.

DESIGN CHOICE (log 27): a command presented while another one waits at the port replaces it, in `IDLE` too. R214 allows
presenting at any time and gives it no effect by itself, and the port has one set of command lines (R170). -/
def hostMove (m : HostMove) (s : State) : Option State :=
  match m with
  | .present c => some { s with port := some c }
  | .withdraw => if s.st = .idle then none else some { s with port := none }
  | .appendChar c => some { s with si := s.si ++ [.data c] }
  | .appendSIEnd => some { s with si := s.si ++ [.endTok] }
  | .appendPoint pt => some { s with pi := s.pi ++ [.data pt] }
  | .appendPIEnd => some { s with pi := s.pi ++ [.endTok] }
  | .takeSO =>
    match s.so with
    | [] => none
    | _ :: rest => some { s with so := rest }
  | .takePO =>
    match s.po with
    | [] => none
    | _ :: rest => some { s with po := rest }
  | .setSOReady b => some { s with soReady := b }
  | .setPOReady b => some { s with poReady := b }
  | .readStatus => some s
  | .assertReset => some { resetRegisters s with rst := true }
  | .releaseReset => some { s with rst := false }

/-- The last column of R214's table. -/
inductive MoveKind where
  /-- The host may do it or not, at any moment it is allowed. -/
  | liberty
  /-- What a liveness statement assumes that the host eventually does (R212). -/
  | duty
  deriving DecidableEq, Repr

/-- The kind of a move in a state (R214): items are a duty while a command that reads their stream runs, `END` and taking output
always. Raising a sink's ready line is the other half of the duty to accept; lowering it and releasing `rst` are liberties. -/
def hostMoveKind (m : HostMove) (s : State) : MoveKind :=
  match m with
  | .present _ | .withdraw | .readStatus | .assertReset | .releaseReset => .liberty
  | .appendChar _ => if s.runsOnSI then .duty else .liberty
  | .appendPoint _ => if s.runsOnPI then .duty else .liberty
  | .appendSIEnd | .appendPIEnd | .takeSO | .takePO => .duty
  | .setSOReady b | .setPOReady b => if b then .duty else .liberty

end Machine
end Sys2Proof
end

