-- ==== Sys2Proof/Machine/WholePass.lean ====
section
/-! DEFINITION. The whole-pass definitions of DECODE and ENCODE and of the readers and writers inside them, as functions of
the input stream: the forms the spec calls normative (spec/45_sequence_fsm.md R150, R160, R172; spec/41_number_decoder.md R80,
R83; spec/42_number_encoder.md R100). `step` runs the state-by-state forms; statements tie the two together. -/

namespace Sys2Proof
namespace Machine

/-! ## RDNUM and DECNUM on a stream -/

/-- How a read of SI ends: with a value, by BufferExhausted (`END` removed), or not at all, because the host has presented no
further item (R36, R80, R211). `pops` counts the characters popped. -/
inductive ReadEnd where
  | value (num : Word32) (pops : Nat) (rest : List (Item Char8))
  | exhausted (pops : Nat) (rest : List (Item Char8))
  | starved
  deriving DecidableEq, Repr

/-- The loop of RDNUM with `n` valid symbols still to read (R80, R81). -/
def rdnumLoop (tab : Config.Table) : Nat → Word32 → Nat → List (Item Char8) → ReadEnd
  | 0, num, pops, items => .value num pops items
  | _ + 1, _, _, [] => .starved
  | _ + 1, _, pops, .endTok :: rest => .exhausted pops rest
  | n + 1, num, pops, .data c :: rest =>
    match revOf tab c with
    | some i => rdnumLoop tab n ((num <<< 6) ||| i.setWidth 32) (pops + 1) rest
    | none => rdnumLoop tab (n + 1) num (pops + 1) rest

/-- How a DECNUM ends (R83). -/
inductive NumberEnd where
  | value (t : Tier) (payload : Word32) (pops : Nat) (rest : List (Item Char8))
  | exhausted (pops : Nat) (rest : List (Item Char8))
  | starved
  deriving DecidableEq, Repr

/-- DECNUM (R83): the probe, then as many symbols as its tier asks for. -/
def decnumOn (tab : Config.Table) (items : List (Item Char8)) : NumberEnd :=
  match rdnumLoop tab 1 0 0 items with
  | .starved => .starved
  | .exhausted pops rest => .exhausted pops rest
  | .value num pops rest =>
    let p : Index := num.setWidth 6
    match rdnumLoop tab (tierOf p).extra 0 pops rest with
    | .starved => .starved
    | .exhausted pops' rest' => .exhausted pops' rest'
    | .value e pops' rest' => .value (tierOf p) (payloadOf (tierOf p) p e) pops' rest'

/-! ## DECODE -/

/-- What a DECODE pass carries from number to number (R150). -/
structure DecodePass where
  ax     : Word32
  ay     : Word32
  axis   : Axis
  cur    : Nat
  points : List Point
  deriving DecidableEq, Repr

/-- The pass start (R146, R150). -/
def DecodePass.start : DecodePass := ⟨0, 0, .x, 0, []⟩

/-- One accumulator of a pass. -/
def DecodePass.acc (r : DecodePass) : Axis → Word32
  | .x => r.ax
  | .y => r.ay

/-- What one number does to the pass (R150): replace or add, emit after Y, turn the axis. -/
def DecodePass.apply (r : DecodePass) (t : Tier) (v : Word32) : DecodePass :=
  let new := if t = .full then v else r.acc r.axis + v
  match r.axis with
  | .x => { r with ax := new, axis := .y }
  | .y => { r with ay := new, axis := .x, points := r.points ++ [⟨toDegreesX r.ax, toDegreesY new⟩] }

/-- How a DECODE pass ends: normally (R147), by BufferExhausted (R181), or not at all (R211). -/
inductive DecodeEnd where
  | ok (r : DecodePass) (rest : List (Item Char8))
  | exhausted (r : DecodePass) (rest : List (Item Char8))
  | starved
  deriving DecidableEq, Repr

/-- The loop of R150. The first argument bounds the number of numbers; each pops at least one item, so a bound of the
stream's length is never reached. -/
def decodeLoop (tab : Config.Table) : Nat → DecodePass → List (Item Char8) → DecodeEnd
  | 0, _, _ => .starved
  | _ + 1, _, [] => .starved
  | _ + 1, r, .endTok :: rest => .ok r rest
  | n + 1, r, .data c :: more =>
    match decnumOn tab (.data c :: more) with
    | .starved => .starved
    | .exhausted pops rest => .exhausted { r with cur := r.cur + pops } rest
    | .value t v pops rest => decodeLoop tab n (({ r with cur := r.cur + pops } : DecodePass).apply t v) rest

/-- DECODE of what SI holds (R150). -/
def decodePass (tab : Config.Table) (items : List (Item Char8)) : DecodeEnd :=
  decodeLoop tab (items.length + 1) .start items

/-- A text as the host sends it: its characters, then one `END` (R35). -/
def textItems (text : List Char8) : List (Item Char8) := text.map .data ++ [.endTok]

/-- The result of DECODE on a text (R184): the points, or `none` for `Err(BufferExhausted)`. -/
def decodeText (tab : Config.Table) (text : List Char8) : Option (List Point) :=
  match decodePass tab (textItems text) with
  | .ok r _ => some r.points
  | .exhausted _ _ => none
  | .starved => none

/-! ## WRNUM and ENCODE -/

/-- The first `n` symbols of a word held as `OSR` holds it (R100, R104). -/
def emit (tab : Config.Table) : Nat → BitVec 30 → List Char8
  | 0, _ => []
  | n + 1, w => romOf tab (nextIndex w) :: emit tab n (w <<< 6)

/-- The characters WRNUM pushes (R100). -/
def wrnumText (tab : Config.Table) (d a : Word32) : List Char8 := emit tab (encoderCount d).toNat (encoderWord d a)

/-- What an ENCODE pass carries from point to point (R160), with the counter of `ANY32` draws. -/
structure EncodePass where
  ax    : Word32
  ay    : Word32
  cur   : Nat
  draws : Nat
  chars : List Char8
  deriving DecidableEq, Repr

/-- A transform's result and the counter after it (R116). -/
def drawFixed (r : Option Word32) (draws : Nat) : Word32 × Nat :=
  match r with
  | some v => (v, draws)
  | none => (Config.any32 draws, draws + 1)

/-- What one point does to the pass (R160). -/
def EncodePass.point (tab : Config.Table) (r : EncodePass) (pt : Point) : EncodePass :=
  let x := drawFixed (toFixedX pt.x) r.draws
  let y := drawFixed (toFixedY pt.y) x.2
  { ax := x.1, ay := y.1, cur := r.cur + 1, draws := y.2,
    chars := r.chars ++ wrnumText tab (x.1 - r.ax) x.1 ++ wrnumText tab (y.1 - r.ay) y.1 }

/-- How an ENCODE pass ends: normally, or not at all. -/
inductive EncodeEnd where
  | ok (r : EncodePass) (rest : List (Item Point))
  | starved
  deriving DecidableEq, Repr

/-- The loop of R160. -/
def encodeLoop (tab : Config.Table) : EncodePass → List (Item Point) → EncodeEnd
  | _, [] => .starved
  | r, .endTok :: rest => .ok r rest
  | r, .data pt :: rest => encodeLoop tab (r.point tab pt) rest

/-- ENCODE of what PI holds, from a given draw counter (R160). -/
def encodePass (tab : Config.Table) (draws : Nat) (items : List (Item Point)) : EncodeEnd :=
  encodeLoop tab ⟨0, 0, 0, draws, []⟩ items

/-- A point list as the host sends it (R35). -/
def pointItems (pts : List Point) : List (Item Point) := pts.map .data ++ [.endTok]

/-- The text ENCODE makes of a point list (R160); `draws` names the free values it may meet. -/
def encodeText (tab : Config.Table) (draws : Nat) (pts : List Point) : List Char8 :=
  match encodePass tab draws (pointItems pts) with
  | .ok r _ => r.chars
  | .starved => []

end Machine
end Sys2Proof
end

