-- ==== Sys2Proof/Safety.lean ====
section
/-! DEFINITION. What counts as a good state and a safe run: the ranges of spec/10_state.md R16 to R18, what each FSM state
implies of the latches (spec/45_sequence_fsm.md R151 to R164), the flags of a busy block (spec/70_reset_and_hazards.md R211),
the characters on SO (spec/20_memory.md R35), the states a run of steps and host moves reaches (R214), and the fairness of a run:
the FSM's (R210) and the host's duties (R212, R214). -/

namespace Sys2Proof
namespace Safety

open Sys2Proof.Machine

/-- The rows SYM_00 to SYM_15 with the indices R74 gives them. -/
def symbolRows00 : List (Instr × Index) :=
  [(Instr.sym00, 0#6), (Instr.sym01, 1#6), (Instr.sym02, 2#6), (Instr.sym03, 3#6), (Instr.sym04, 4#6), (Instr.sym05, 5#6), (Instr.sym06, 6#6), (Instr.sym07, 7#6),
   (Instr.sym08, 8#6), (Instr.sym09, 9#6), (Instr.sym10, 10#6), (Instr.sym11, 11#6), (Instr.sym12, 12#6), (Instr.sym13, 13#6), (Instr.sym14, 14#6), (Instr.sym15, 15#6)]

/-- The rows SYM_16 to SYM_31 with the indices R74 gives them. -/
def symbolRows16 : List (Instr × Index) :=
  [(Instr.sym16, 16#6), (Instr.sym17, 17#6), (Instr.sym18, 18#6), (Instr.sym19, 19#6), (Instr.sym20, 20#6), (Instr.sym21, 21#6), (Instr.sym22, 22#6), (Instr.sym23, 23#6),
   (Instr.sym24, 24#6), (Instr.sym25, 25#6), (Instr.sym26, 26#6), (Instr.sym27, 27#6), (Instr.sym28, 28#6), (Instr.sym29, 29#6), (Instr.sym30, 30#6), (Instr.sym31, 31#6)]

/-- The rows SYM_32 to SYM_47 with the indices R74 gives them. -/
def symbolRows32 : List (Instr × Index) :=
  [(Instr.sym32, 32#6), (Instr.sym33, 33#6), (Instr.sym34, 34#6), (Instr.sym35, 35#6), (Instr.sym36, 36#6), (Instr.sym37, 37#6), (Instr.sym38, 38#6), (Instr.sym39, 39#6),
   (Instr.sym40, 40#6), (Instr.sym41, 41#6), (Instr.sym42, 42#6), (Instr.sym43, 43#6), (Instr.sym44, 44#6), (Instr.sym45, 45#6), (Instr.sym46, 46#6), (Instr.sym47, 47#6)]

/-- The rows SYM_48 to SYM_63 with the indices R74 gives them. -/
def symbolRows48 : List (Instr × Index) :=
  [(Instr.sym48, 48#6), (Instr.sym49, 49#6), (Instr.sym50, 50#6), (Instr.sym51, 51#6), (Instr.sym52, 52#6), (Instr.sym53, 53#6), (Instr.sym54, 54#6), (Instr.sym55, 55#6),
   (Instr.sym56, 56#6), (Instr.sym57, 57#6), (Instr.sym58, 58#6), (Instr.sym59, 59#6), (Instr.sym60, 60#6), (Instr.sym61, 61#6), (Instr.sym62, 62#6), (Instr.sym63, 63#6)]

/-- The 64 symbol rows of the opcode table. -/
def symbolRows : List (Instr × Index) := symbolRows00 ++ symbolRows16 ++ symbolRows32 ++ symbolRows48

/-- The legal values of `CNT`, `OCNT`, `NUM` (R17, R18). -/
def rangesOk (s : State) : Bool := decide (s.cnt.toNat ≤ 5) && decide (s.ocnt.toNat ≤ 5) && decide (s.num.toNat < 2 ^ 30)

/-- While `n` symbols are being read: between 1 and `n` still to come, and `NUM` holds only the ones read (R80, R82). -/
def readingOk (n : Nat) (s : State) : Bool :=
  decide (1 ≤ s.cnt.toNat) && decide (s.cnt.toNat ≤ n) && decide (s.num.toNat < 64 ^ (n - s.cnt.toNat))

/-- The probe has been read and its tier latched (R152); the other symbols are being read. -/
def extraOk (s : State) : Bool := s.tier == tierOf s.p && readingOk s.tier.extra s

/-- What state `UNIT` implies: the latched command is a unit operation (R143), with a legal count for RDNUM (U6), and the
position fits it. -/
def unitOk (s : State) : Bool :=
  match s.upos with
  | .entry =>
    decide (1 ≤ s.cmd.op.toNat) && decide (s.cmd.op.toNat ≤ 13) &&
      (s.cmd.op != 3 || decide ((s.cmd.opa.setWidth 3).toNat ≤ 5))
  | .read => s.cmd.op == 3 && decide ((s.cmd.opa.setWidth 3).toNat ≤ 5) && readingOk (s.cmd.opa.setWidth 3).toNat s
  | .probe => s.cmd.op == 4 && s.cnt == 1 && s.num == 0
  | .extra => s.cmd.op == 4 && extraOk s
  | .shift => s.cmd.op == 5 && decide (1 ≤ s.ocnt.toNat)

/-- What the value of `ST` implies of the latches (R151 to R155, R162 to R164). -/
def phaseOk (s : State) : Bool :=
  match s.st with
  | .unit => unitOk s
  | .dProbe => s.upos == .entry && s.cnt == 1 && s.num == 0
  | .dExtra => s.upos == .entry && extraOk s
  | .dApply => s.upos == .entry && s.cnt == 0 && s.tier == tierOf s.p && decide (s.num.toNat < 64 ^ s.tier.extra)
  | .dEmit => s.upos == .entry && s.axis == .y
  | .eShX | .eShY => s.upos == .entry && decide (1 ≤ s.ocnt.toNat)
  | .idle | .dNext | .eNext | .eNumX | .eNumY | .eUpd => s.upos == .entry

/-- The flags (R16, R211): a busy block is not done, not in error and has no result; an error or a result comes with `DONE`;
an error comes without a result. -/
def flagsOk (s : State) : Bool :=
  (!s.busy || (!s.doneFlag && s.err == .none && !s.resv)) &&
    (s.err == .none || (s.doneFlag && !s.resv)) && (!s.resv || s.doneFlag)

/-- Every character on SO is a symbol of the table (R35, R37; 92_eei_decisions.md D27). -/
def outputOk (tab : Config.Table) (s : State) : Bool := s.so.all fun c => !isFillerOf tab c

/-- The invariant of a run over the table `tab`. -/
def InvOf (tab : Config.Table) (s : State) : Prop :=
  rangesOk s = true ∧ phaseOk s = true ∧ flagsOk s = true ∧ outputOk tab s = true

/-- The invariant of a run of this machine. -/
def Inv (s : State) : Prop := InvOf Config.alphabet s

/-- The host does not present RDNUM with a reserved count ("a host must not issue 6 or 7", U6). -/
def PortAllowed (s : State) : Prop := ∀ c, s.port = some c → c.op = 3 → (c.opa.setWidth 3).toNat ≤ 5

/-- `ST` is one of DECODE's states. -/
def InDecode (s : State) : Prop :=
  s.st = .dNext ∨ s.st = .dProbe ∨ s.st = .dExtra ∨ s.st = .dApply ∨ s.st = .dEmit

/-- The state without what a DECODE pass neither reads nor writes (R149): `RES`, ENCODE's latches, PI, SO, the latched
command, the command port, `so_ready` and the draw counter. -/
def decodeView (s : State) : State :=
  { s with res := 0, fx := 0, fy := 0, osr := 0, ocnt := 0, cmd := ⟨0, 0, 0⟩, pi := [], so := [], port := none,
           soReady := false, draws := 0 }

/-- `t` is reached from `s` by steps of the FSM and moves of the host, in any order (R214). -/
inductive Reach (s : State) : State → Prop where
  | start : Reach s s
  | stepped {t u : State} (h : Reach s t) (hs : step t = .next u) : Reach s u
  | moved {t u : State} (m : HostMove) (h : Reach s t) (hm : hostMove m t = some u) : Reach s u

/-- `t` is reached from `s` by `n` steps of the FSM alone. -/
def RunsTo (n : Nat) (s t : State) : Prop := Sys2Proof.core.run n s = .next t

/-- `t` is reached from `s` by `n` steps of the FSM alone, over the table `tab`. -/
def RunsToOf (tab : Config.Table) (n : Nat) (s t : State) : Prop := runOf tab n s = .next t

/-! ## Fair runs -/

/-- What happens next on a run: a step of the FSM or a move of the host (R140, R214). -/
inductive Event where
  | fsm
  | host (m : HostMove)
  deriving DecidableEq, Repr

/-- An infinite run: the state at each moment and what happens there. -/
structure Run where
  state : Nat → State
  event : Nat → Event

/-- Every event of the run is a step over the table `tab` or an allowed move, one at a time (R214). -/
def Run.Valid (tab : Config.Table) (r : Run) : Prop :=
  ∀ n, match r.event n with
    | .fsm => stepOf tab (r.state n) = .next (r.state (n + 1))
    | .host m => hostMove m (r.state n) = some (r.state (n + 1))

/-- The FSM is never left out for ever (R210: an enabled step is eventually taken; log 8 for the steps that wait). -/
def Run.FsmFair (r : Run) : Prop := ∀ n, ∃ m, n ≤ m ∧ r.event m = .fsm

/-- From some moment after `n` on, `c` holds until the FSM's next step. -/
def Run.HeldForAStep (r : Run) (n : Nat) (c : State → Prop) : Prop :=
  ∃ m, n ≤ m ∧ ∀ k, m ≤ k → (∀ j, m ≤ j → j < k → r.event j ≠ .fsm) → c (r.state k)

/-- The host's duties (R212, R214), as what eventually happens on a run. -/
structure Run.HostFair (r : Run) : Prop where
  /-- While a command that reads SI runs, every character of its text and then `END` come: an `END` comes to stand in SI,
  behind finitely many characters, unless the command is over. -/
  endOfText : ∀ n, (r.state n).runsOnSI = true →
    ∃ m, n ≤ m ∧ (Item.endTok ∈ (r.state m).si ∨ (r.state m).runsOnSI = false)
  /-- The same of PI and the points of a list. -/
  endOfPoints : ∀ n, (r.state n).runsOnPI = true →
    ∃ m, n ≤ m ∧ (Item.endTok ∈ (r.state m).pi ∨ (r.state m).runsOnPI = false)
  /-- A character that is pushed is accepted: the sink comes to be ready, and stays so until the FSM's next step. -/
  acceptsCharacters : ∀ n, (r.state n).soValid = true →
    r.HeldForAStep n fun s => s.soReady = true ∨ s.soValid = false
  /-- The same of a point that is pushed. -/
  acceptsPoints : ∀ n, (r.state n).poValid = true →
    r.HeldForAStep n fun s => s.poReady = true ∨ s.poValid = false
  /-- Characters on SO are taken. -/
  takesCharacters : ∀ n, (r.state n).so ≠ [] → ∃ m, n ≤ m ∧ r.event m = .host .takeSO
  /-- Points on PO are taken. -/
  takesPoints : ∀ n, (r.state n).po ≠ [] → ∃ m, n ≤ m ∧ r.event m = .host .takePO

end Safety
end Sys2Proof
end

