-- ==== Sys2Proof/Certificates/Slice0/Obligations.lean ====
section
/-! DEFINITION. The statements for the provers, from the numbered rules of spec/. A statement whose docstring names a decision
D<n> or the word "derived" rests on a rule the spec marks as its own choice or inference; a log entry is named where the
statement rests on a choice of the model. -/

open Sys2Proof Sys2Proof.Machine Sys2Proof.Safety

/-! ## Tables and encodings -/

/-- R75: `ROM[i]` is the character with bit 7 zero and bits 6:0 the entry of the table, for every index: in this machine and
over every table of 64 entries. -/
def Obligations.RomReadsTheAlphabet : Prop :=
  (∀ i : Index, (rom i).getLsbD 7 = false ∧ Config.alphabet[i.toNat]? = some ((rom i).setWidth 7)) ∧
  (∀ tab : Config.Table, tab.length = 64 → ∀ i : Index,
    (romOf tab i).getLsbD 7 = false ∧ tab[i.toNat]? = some ((romOf tab i).setWidth 7))

/-- R76, for every table of 64 distinct ASCII entries: REV finds a character exactly at the index whose ROM entry it is,
on all eight bits, and finds no character of 128..255. -/
def Obligations.ReverseTableInvertsTheRom : Prop :=
  ∀ tab : Config.Table, tab.length = 64 → tab.Nodup → ∀ c : Char8,
    (∀ i, revOf tab c = some i ↔ romOf tab i = c) ∧ (c.getLsbD 7 = true → revOf tab c = none)

/-- The laws of the symbol codec (derived in 40_symbol_rom.md): IDXOF of what SYMOF returns finds the same index, SYMOF of an
index IDXOF finds returns the character, in this machine and over every admissible table, of which exactly 64 of the 256
characters are found. -/
def Obligations.SymbolCodecIsABijection : Prop :=
  (∀ (i : Index) (s : State), s.st = .unit → ∃ t u,
    exec (.symof i) s = .next t ∧ exec (.idxof (t.res.setWidth 8)) { t with st := .unit } = .next u ∧
      u.res = i.setWidth 64 ∧ u.resv = true) ∧
  (∀ (c : Char8) (i : Index) (s : State), s.st = .unit → rev c = some i → ∃ t u,
    exec (.idxof c) s = .next t ∧ exec (.symof (t.res.setWidth 6)) { t with st := .unit } = .next u ∧
      u.res = c.setWidth 64) ∧
  (∀ tab, Config.Admissible tab →
    ((List.range 256).filter fun k => (revOf tab (BitVec.ofNat 8 k)).isSome).length = 64 ∧
    (∀ (i : Index) (s : State), s.st = .unit → ∃ t u,
      execOf tab (.symof i) s = .next t ∧ execOf tab (.idxof (t.res.setWidth 8)) { t with st := .unit } = .next u ∧
        u.res = i.setWidth 64 ∧ u.resv = true) ∧
    (∀ (c : Char8) (i : Index) (s : State), s.st = .unit → revOf tab c = some i → ∃ t u,
      execOf tab (.idxof c) s = .next t ∧ execOf tab (.symof (t.res.setWidth 6)) { t with st := .unit } = .next u ∧
        u.res = c.setWidth 64))

/-- R52: the word of ADDS has marker bit 11 zero and the biased delta below it; its two symbols are the indices b >> 6
(0..31) and b & 63. -/
def Obligations.SmallFormLayout : Prop :=
  ∀ d : Int, -1024 ≤ d → d ≤ 1023 → ∃ b : Nat, (b : Int) = d + 1024 ∧ b ≤ 2047 ∧
    (wordS2 d).getLsbD 11 = false ∧ ((wordS2 d).extractLsb' 0 11).toNat = b ∧ b / 64 ≤ 31 ∧
    encode (.adds d) = .text [rom (BitVec.ofNat 6 (b / 64)), rom (BitVec.ofNat 6 (b % 64))]

/-- R53: the word of ADDM has marker bits 17:16 binary 10 and the biased delta below; its three symbols are
0x20 | (b >> 12) (32..47), (b >> 6) & 63 and b & 63. -/
def Obligations.MediumFormLayout : Prop :=
  ∀ d : Int, -32768 ≤ d → d ≤ 32767 → ∃ b : Nat, (b : Int) = d + 32768 ∧ b ≤ 65535 ∧
    (wordM3 d).extractLsb' 16 2 = 0b10#2 ∧ ((wordM3 d).extractLsb' 0 16).toNat = b ∧ b / 4096 ≤ 15 ∧
    encode (.addm d) =
      .text [rom (BitVec.ofNat 6 (32 + b / 4096)), rom (BitVec.ofNat 6 (b / 64 % 64)), rom (BitVec.ofNat 6 (b % 64))]

/-- R54: the word of SETF has marker bits 29:28 binary 11 and the value below; its five symbols are 0x30 | (v >> 24)
(48..63) and the four lower groups of six bits. -/
def Obligations.FullFormLayout : Prop :=
  ∀ v : BitVec 28, (wordF5 v).extractLsb' 28 2 = 0b11#2 ∧ (wordF5 v).extractLsb' 0 28 = v ∧ v.toNat / 2 ^ 24 ≤ 15 ∧
    encode (.setf v) =
      .text [rom (BitVec.ofNat 6 (48 + v.toNat / 2 ^ 24)), rom (BitVec.ofNat 6 (v.toNat / 2 ^ 18 % 64)),
        rom (BitVec.ofNat 6 (v.toNat / 2 ^ 12 % 64)), rom (BitVec.ofNat 6 (v.toNat / 2 ^ 6 % 64)),
        rom (BitVec.ofNat 6 (v.toNat % 64))]

/-- R56: the leading symbol alone decides the form, FIVE_MARK tested first, then THREE_MARK; 4, 2 or 1 more symbols. -/
def Obligations.LeadingSymbolDecidesTheForm : Prop :=
  ∀ p : Index,
    (p &&& 0x30 = 0x30 → tierOf p = .full ∧ (tierOf p).extra = 4) ∧
    (p &&& 0x30 ≠ 0x30 → p &&& 0x20 = 0x20 → tierOf p = .medium ∧ (tierOf p).extra = 2) ∧
    (p &&& 0x30 ≠ 0x30 → p &&& 0x20 ≠ 0x20 → tierOf p = .small ∧ (tierOf p).extra = 1)

/-- R55: the operand of each form from the leading index `p` and the value `e` of the other symbols, with no sign extension
and the bias removed, and its range. -/
def Obligations.OperandAssembly : Prop :=
  ∀ (p : Index) (e : Word32),
    (e.toNat < 2 ^ 6 → ∃ d : Int, formOf .small p e = .adds d ∧ d = (p.toNat % 32 * 64 + e.toNat : Nat) - 1024 ∧
      -1024 ≤ d ∧ d ≤ 1023) ∧
    (e.toNat < 2 ^ 12 → ∃ d : Int, formOf .medium p e = .addm d ∧ d = (p.toNat % 16 * 4096 + e.toNat : Nat) - 32768 ∧
      -32768 ≤ d ∧ d ≤ 32767) ∧
    (e.toNat < 2 ^ 24 → ∃ v : BitVec 28, formOf .full p e = .setf v ∧ v.toNat = p.toNat % 16 * 2 ^ 24 + e.toNat ∧
      (48 ≤ p.toNat → v.toNat = (p.toNat - 48) % 16 * 2 ^ 24 + e.toNat))

/-- Tier 3 (decode and encode agree): for every well-formed instruction of every family, with every operand at every value
its encoding admits, decoding what the encoder writes gives the instruction back, in this machine and over every admissible
table. -/
def Obligations.DecodeInvertsEncode : Prop :=
  (∀ i : Instr, i.wellFormed = true → decode (encode i) = .ok i) ∧
  (∀ tab, Config.Admissible tab → ∀ i : Instr, i.wellFormedOf tab = true → decodeOf tab (encodeOf tab i) = .ok i)

/-- The 12-, 18- and 30-bit words of the opcode table: every word with the form's marker is legal and decodes to its operand
(30_encoding.md, derived rule on non-canonical numbers), every other word of that length is refused. -/
def Obligations.TableWordsDecode : Prop :=
  ∀ w : Nat,
    (w < 2 ^ 11 → decodeTableWord 16 w = some (.adds ((w : Int) - 1024))) ∧
    (2 ^ 11 ≤ w → decodeTableWord 16 w = none) ∧
    (2 ^ 17 ≤ w → w < 2 ^ 17 + 2 ^ 16 → decodeTableWord 24 w = some (.addm ((w : Int) - 2 ^ 17 - 32768))) ∧
    (w < 2 ^ 17 ∨ 2 ^ 17 + 2 ^ 16 ≤ w → decodeTableWord 24 w = none) ∧
    (3 * 2 ^ 28 ≤ w → w < 2 ^ 30 → decodeTableWord 32 w = some (.setf (BitVec.ofNat 28 w))) ∧
    (w < 3 * 2 ^ 28 ∨ 2 ^ 30 ≤ w → decodeTableWord 32 w = none)

/-- A few words written out from the encodings of 30_encoding.md and 95_test_vectors.md decode to the instruction they stand
for: `kQ0`, `9hd0G`, `N2`, the symbol `x`, a space, and the codes of AADD and RDNUM with operands. That `N` has index 16 is one of the
39 general-knowledge entries of the Alphabet (G1; log 3). -/
def Obligations.SampleWordsDecode : Prop :=
  decode (.text [0x6B, 0x51, 0x30]) = .ok (.addm 21760) ∧
  decode (.text [0x39, 0x68, 0x64, 0x30, 0x47]) = .ok (.setf 145113096) ∧
  decode (.text [0x4E, 0x32]) = .ok (.adds 5) ∧
  decode (.text [0x78]) = .ok .sym60 ∧
  decode (.text [0x20]) = .ok (.skip 0x20) ∧
  decode (.command ⟨11, 0x1, 0x1FFFFFFFF⟩) = .ok (.aadd .y 0xFFFFFFFF) ∧
  decode (.command ⟨3, 0xFFFFFFFFFFFFFFFC, 0⟩) = .ok (.rdnum 4)

/-! ## A step runs the decoded instruction -/

/-- With `rst` low a step runs what the FSM finds: in `IDLE` the command on the port, in `UNIT` the latched command, in
`D_PROBE` and `D_EXTRA` the character at the head of SI (the pass where there is none), in `D_APPLY` the number form in the
latches, elsewhere the pass; with no command on the port of an idle block nothing changes. The reading of the transition
table as a fetch is the model's (logs 1, 8). The machine is the case of its own table of the machine over any table (log 28), whose
step runs the same. -/
def Obligations.StepRunsTheFetchedInstruction : Prop :=
  (∀ s : State, s.rst = false →
    (s.st = .idle → s.port = none → step s = .next s) ∧
    (∀ c i, s.st = .idle → s.port = some c → decodeCommand c = .ok i → step s = exec i s) ∧
    (∀ i, s.st = .unit → decodeCommand s.cmd = .ok i → step s = exec i s) ∧
    (∀ c rest, s.st = .dProbe ∨ s.st = .dExtra → s.si = .data c :: rest → step s = exec (charInstr c) s) ∧
    (s.st = .dProbe ∨ s.st = .dExtra → s.si = [] ∨ (∃ rest, s.si = .endTok :: rest) → step s = exec .decode s) ∧
    (s.st = .dApply → step s = exec (formOf s.tier s.p s.num) s) ∧
    (s.st = .dNext ∨ s.st = .dEmit → step s = exec .decode s) ∧
    (s.st = .eNext ∨ s.st = .eNumX ∨ s.st = .eShX ∨ s.st = .eNumY ∨ s.st = .eShY ∨ s.st = .eUpd →
      step s = exec .encode s)) ∧
  (∀ tab (s : State), s.rst = false →
    (∀ c i, s.st = .idle → s.port = some c → decodeCommand c = .ok i → stepOf tab s = execOf tab i s) ∧
    (∀ i, s.st = .unit → decodeCommand s.cmd = .ok i → stepOf tab s = execOf tab i s) ∧
    (∀ c rest, s.st = .dProbe ∨ s.st = .dExtra → s.si = .data c :: rest →
      stepOf tab s = execOf tab (charInstrOf tab c) s)) ∧
  (∀ i s, execOf Config.alphabet i s = exec i s) ∧ (∀ s, stepOf Config.alphabet s = step s) ∧
  (∀ n s t, RunsToOf Config.alphabet n s t ↔ RunsTo n s t)

/-- DECODE executes its text: at a character, the pass does what the character's instruction does; in `D_APPLY`, what the
number form in the latches does (the number forms and the fillers as executed by DECODE, 41_number_decoder.md). -/
def Obligations.DecodeRunsItsTextsInstructions : Prop :=
  ∀ s : State,
    (∀ c rest, s.st = .dProbe ∨ s.st = .dExtra → s.si = .data c :: rest → exec .decode s = exec (charInstr c) s) ∧
    (s.st = .dApply → exec .decode s = exec (formOf s.tier s.p s.num) s)

/-! ## Command acceptance -/

/-- Acceptance of a unit operation (45_sequence_fsm.md section 1, decisions D13, D17): for every command of codes 1 to 13, in
`IDLE` with the command on the port, the flags and `CUR` are cleared, the command is latched whole, `ST` is `UNIT`, the port's
transfer is over (log 24), and every other part of the state keeps its value. -/
def Obligations.UnitCommandsAreAccepted : Prop :=
  ∀ (s : State) (c : Command) (i : Instr), s.st = .idle → s.port = some c → decodeCommand c = .ok i →
    1 ≤ c.op.toNat → c.op.toNat ≤ 13 →
    exec i s = .next { s with doneFlag := false, err := .none, resv := false, cur := 0, cmd := c, st := .unit,
                              upos := .entry, port := none }

/-- The pass start (45_sequence_fsm.md section 1): accepting DECODE or ENCODE sets `AX`, `AY`, `AXIS`, `P`, `TIER`,
`CNT`, `NUM`, `FX`, `FY`, `OSR`, `OCNT` to 0, with what acceptance does to every command (decisions D13, D17: flags and `CUR` cleared, command latched, `ST` set;
the port's transfer over, log 24). -/
def Obligations.PassStartClearsEverything : Prop :=
  ∀ (s : State) (c : Command), s.st = .idle → s.port = some c →
    (decodeCommand c = .ok .decode → exec .decode s = .next
      { s with ax := 0, ay := 0, axis := .x, p := 0, tier := .small, cnt := 0, num := 0, fx := 0, fy := 0, osr := 0,
               ocnt := 0, doneFlag := false, err := .none, resv := false, cur := 0, cmd := c, st := .dNext,
               upos := .entry, port := none }) ∧
    (decodeCommand c = .ok .encode → exec .encode s = .next
      { s with ax := 0, ay := 0, axis := .x, p := 0, tier := .small, cnt := 0, num := 0, fx := 0, fy := 0, osr := 0,
               ocnt := 0, doneFlag := false, err := .none, resv := false, cur := 0, cmd := c, st := .eNext,
               upos := .entry, port := none })

/-- NOP (45_sequence_fsm.md section 1, decision D19): code 0 with any operands decodes to NOP, and NOP in `IDLE` changes no
register, flag or stream; only the port's transfer is over (log 24). -/
def Obligations.NopChangesNothing : Prop :=
  (∀ opa opb, decodeCommand ⟨0, opa, opb⟩ = .ok .nop) ∧
  (∀ s : State, s.st = .idle → exec .nop s = .next { s with port := none })

/-- A busy block does not look at the command port (45_sequence_fsm.md section 1, decision D13): whatever is on the port, a step
of a busy block does the same and leaves it there. -/
def Obligations.BusyBlockIgnoresThePort : Prop :=
  ∀ (s t : State) (q : Option Command), s.st ≠ .idle → step s = .next t →
    step { s with port := q } = .next { t with port := q }

/-- RDNUM with a reserved count (93_implementation_defined.md U6, treatment `refuse`; log 9): the decoder rejects it,
exec refuses it where the FSM looks at the command, and a step with `rst` low refuses it where it is on the port of an idle
block or latched in `UNIT`. -/
def Obligations.ReservedCountsAreRefused : Prop :=
  ∀ (n : BitVec 3) (s : State), 5#3 < n →
    (∀ opa opb, opa.setWidth 3 = n → decodeCommand ⟨3, opa, opb⟩ = .error .reservedCount) ∧
    (s.st = .idle ∨ s.st = .unit → exec (.rdnum n) s = .refused .reservedCount) ∧
    (∀ c, s.rst = false → c.op = 3#4 → c.opa.setWidth 3 = n →
      (s.st = .idle → s.port = some c → step s = .refused .reservedCount) ∧
      (s.st = .unit → s.cmd = c → step s = .refused .reservedCount))

/-! ## Unit operations: symbol codec -/

/-- R77: SYMOF's code and operand field, its whole effect in `UNIT` (`RES`, `RESV`, `DONE` and the end of the command, nothing
else), in this machine and over every table, and the rule's own values. -/
def Obligations.SymofReturnsTheCharacter : Prop :=
  (∀ opa opb, decodeCommand ⟨1, opa, opb⟩ = .ok (.symof (opa.setWidth 6))) ∧
  (∀ (i : Index) (s : State), s.st = .unit →
    exec (.symof i) s = .next { s with res := (rom i).setWidth 64, resv := true, doneFlag := true, st := .idle,
                                       upos := .entry }) ∧
  (∀ tab (i : Index) (s : State), s.st = .unit →
    execOf tab (.symof i) s = .next { s with res := (romOf tab i).setWidth 64, resv := true, doneFlag := true, st := .idle,
                                             upos := .entry }) ∧
  rom 0 = 0x30 ∧ rom 63 = 0x2E ∧ rom 56 = 0x39

/-- R78: IDXOF's code and operand field, its whole effect in `UNIT`: the index with `RESV` 1, or 0 with `RESV` 0, which is no
exception, in this machine and over every table; and the rule's own values. -/
def Obligations.IdxofReturnsTheIndex : Prop :=
  (∀ opa opb, decodeCommand ⟨2, opa, opb⟩ = .ok (.idxof (opa.setWidth 8))) ∧
  (∀ (c : Char8) (s : State), s.st = .unit →
    (∀ i, rev c = some i →
      exec (.idxof c) s = .next { s with res := i.setWidth 64, resv := true, doneFlag := true, st := .idle,
                                         upos := .entry }) ∧
    (rev c = none →
      exec (.idxof c) s = .next { s with res := 0, resv := false, doneFlag := true, st := .idle, upos := .entry })) ∧
  (∀ tab (c : Char8) (s : State), s.st = .unit →
    (∀ i, revOf tab c = some i →
      execOf tab (.idxof c) s = .next { s with res := i.setWidth 64, resv := true, doneFlag := true, st := .idle,
                                               upos := .entry }) ∧
    (revOf tab c = none →
      execOf tab (.idxof c) s = .next { s with res := 0, resv := false, doneFlag := true, st := .idle, upos := .entry })) ∧
  rev 0x30 = some 0 ∧ rev 0x20 = none ∧ rev 0x58 = some 28 ∧ rev 0x78 = some 60 ∧ rev 0x74 = some 55 ∧
  (∀ c : Char8, 0x80#8 ≤ c → rev c = none)

/-! ## Unit operations: number codec -/

/-- RDNUM in `UNIT` (41_number_decoder.md section 1; count 0 is decision D21): the first step of a count 1 to 5, the end at once
of count 0, and every turn of the loop: wait, raise at `END`, pop a filler, shift a symbol in, and the end with `RES` written
when the last symbol is shifted in. Nothing else changes. The cut into steps is the model's (log 6). -/
def Obligations.RdnumReadsSymbols : Prop :=
  ∀ (n : BitVec 3) (s : State), n ≤ 5#3 → s.st = .unit →
    (s.upos = .entry → n = 0#3 →
      exec (.rdnum n) s = .next { s with num := 0, cnt := 0, res := 0, resv := true, doneFlag := true, st := .idle,
                                         upos := .entry }) ∧
    (s.upos = .entry → n ≠ 0#3 → exec (.rdnum n) s = .next { s with num := 0, cnt := n, upos := .read }) ∧
    (s.upos = .read → s.si = [] → exec (.rdnum n) s = .next s) ∧
    (∀ rest, s.upos = .read → s.si = .endTok :: rest →
      exec (.rdnum n) s = .next { s with err := .bufferExhausted, doneFlag := true, si := rest, st := .idle,
                                         upos := .entry }) ∧
    (∀ c rest, s.upos = .read → s.si = .data c :: rest → rev c = none →
      exec (.rdnum n) s = .next { s with si := rest, cur := s.cur + 1 }) ∧
    (∀ c rest i, s.upos = .read → s.si = .data c :: rest → rev c = some i → s.cnt ≠ 1#3 →
      exec (.rdnum n) s = .next { s with si := rest, cur := s.cur + 1, num := s.num <<< 6 ||| i.setWidth 32,
                                         cnt := s.cnt - 1#3 }) ∧
    (∀ c rest i, s.upos = .read → s.si = .data c :: rest → rev c = some i → s.cnt = 1#3 →
      exec (.rdnum n) s = .next { s with si := rest, cur := s.cur + 1, num := s.num <<< 6 ||| i.setWidth 32, cnt := 0,
                                         res := (s.num <<< 6 ||| i.setWidth 32).setWidth 64, resv := true,
                                         doneFlag := true, st := .idle, upos := .entry })

/-- DECNUM in `UNIT` (41_number_decoder.md section 2): the first step, the probe, every turn of the second read, and the end
with `TIER` in `RES[33:32]`, the payload in `RES[31:0]` and the other bits 0. Nothing else changes. The cut into steps and the
latches in between are the model's (logs 6, 11). -/
def Obligations.DecnumReadsANumber : Prop :=
  ∀ s : State, s.st = .unit →
    (s.upos = .entry → exec .decnum s = .next { s with num := 0, cnt := 1, upos := .probe }) ∧
    (s.upos = .probe ∨ s.upos = .extra → s.si = [] → exec .decnum s = .next s) ∧
    (∀ rest, s.upos = .probe ∨ s.upos = .extra → s.si = .endTok :: rest →
      exec .decnum s = .next { s with err := .bufferExhausted, doneFlag := true, si := rest, st := .idle,
                                      upos := .entry }) ∧
    (∀ c rest, s.upos = .probe ∨ s.upos = .extra → s.si = .data c :: rest → rev c = none →
      exec .decnum s = .next { s with si := rest, cur := s.cur + 1 }) ∧
    (∀ c rest i, s.upos = .probe → s.si = .data c :: rest → rev c = some i →
      exec .decnum s = .next { s with si := rest, cur := s.cur + 1, p := i, tier := tierOf i,
                                      cnt := BitVec.ofNat 3 (tierOf i).extra, num := 0, upos := .extra }) ∧
    (∀ c rest i, s.upos = .extra → s.si = .data c :: rest → rev c = some i → s.cnt ≠ 1#3 →
      exec .decnum s = .next { s with si := rest, cur := s.cur + 1, num := s.num <<< 6 ||| i.setWidth 32,
                                      cnt := s.cnt - 1#3 }) ∧
    (∀ c rest i, s.upos = .extra → s.si = .data c :: rest → rev c = some i → s.cnt = 1#3 →
      exec .decnum s = .next
        { s with si := rest, cur := s.cur + 1, num := s.num <<< 6 ||| i.setWidth 32, cnt := 0,
                 res := 0#30 ++ (s.tier.code ++ payloadOf s.tier s.p (s.num <<< 6 ||| i.setWidth 32)),
                 resv := true, doneFlag := true, st := .idle, upos := .entry })

/-- R81: a filler costs one pop and changes nothing else, in RDNUM on a stream, over every table, and in every state in
which a reader meets it; and the rule's two examples. -/
def Obligations.FillersCostOnePop : Prop :=
  (∀ (tab : Config.Table) (n : Nat) (num : Word32) (pops : Nat) (c : Char8) (rest : List (Item Char8)),
    0 < n → revOf tab c = none →
    rdnumLoop tab n num pops (.data c :: rest) = rdnumLoop tab n num (pops + 1) rest) ∧
  (∀ (c : Char8) (rest : List (Item Char8)) (s : State), rev c = none → s.si = .data c :: rest →
    (s.st = .dProbe ∨ s.st = .dExtra ∨ (s.st = .unit ∧ (s.upos = .read ∨ s.upos = .probe ∨ s.upos = .extra))) →
    decode (.text [c]) = .ok (.skip c) ∧ exec (.skip c) s = .next { s with si := rest, cur := s.cur + 1 }) ∧
  rdnumLoop Config.alphabet 2 0 0 [.data 0x30, .data 0x20, .data 0x0A, .data 0x78, .endTok] = .value 60 4 [.endTok] ∧
  rdnumLoop Config.alphabet 1 0 0 [.data 0x20, .data 0x20, .endTok] = .exhausted 2 []

/-- WRNUM in `UNIT` (42_number_encoder.md): the first step loads the word and the count, each later step pushes the symbol
`OSR[29:24]` and shifts, the last one returns the count; without the sink it waits. Nothing else changes. The cut into steps is
the model's (log 6). -/
def Obligations.WrnumPushesSymbols : Prop :=
  ∀ (d a : Word32) (s : State), s.st = .unit →
    (s.upos = .entry → exec (.wrnum d a) s = .next { s with osr := encoderWord d a, ocnt := encoderCount d,
                                                             upos := .shift }) ∧
    (s.upos = .shift → s.soReady = false → exec (.wrnum d a) s = .next s) ∧
    (s.upos = .shift → s.soReady = true → s.ocnt ≠ 1#3 →
      exec (.wrnum d a) s = .next { s with so := s.so ++ [rom (s.osr.extractLsb' 24 6)], osr := s.osr <<< 6,
                                           ocnt := s.ocnt - 1#3 }) ∧
    (s.upos = .shift → s.soReady = true → s.ocnt = 1#3 →
      exec (.wrnum d a) s = .next { s with so := s.so ++ [rom (s.osr.extractLsb' 24 6)], osr := s.osr <<< 6, ocnt := 0,
                                           res := (encoderCount d).setWidth 64, resv := true, doneFlag := true,
                                           st := .idle, upos := .entry })

/-- R105: the tier and the number of symbols for every delta, by the table's boundaries. -/
def Obligations.TierBoundaries : Prop :=
  ∀ (tab : Config.Table) (d a : Word32),
    (d.toInt ≤ -32769 → tierOfDelta d = .full ∧ (wrnumText tab d a).length = 5) ∧
    (-32768 ≤ d.toInt → d.toInt ≤ -1025 → tierOfDelta d = .medium ∧ (wrnumText tab d a).length = 3) ∧
    (-1024 ≤ d.toInt → d.toInt ≤ 1023 → tierOfDelta d = .small ∧ (wrnumText tab d a).length = 2) ∧
    (1024 ≤ d.toInt → d.toInt ≤ 32767 → tierOfDelta d = .medium ∧ (wrnumText tab d a).length = 3) ∧
    (32768 ≤ d.toInt → tierOfDelta d = .full ∧ (wrnumText tab d a).length = 5)

/-- R101 and R102: the symbols of the small and the medium tier, the absolute value ignored, with the rules' corner values; and, of
the full tier, the five symbols of the word 0x30000000 | (a & 0x0FFFFFFF), the delta not encoded (42_number_encoder.md);
over every table. -/
def Obligations.WrnumSymbolsPerTier : Prop :=
  ∀ tab : Config.Table,
    (∀ d a : Word32, -1024 ≤ d.toInt → d.toInt ≤ 1023 → ∃ b : Nat, (b : Int) = d.toInt + 1024 ∧ b / 64 ≤ 31 ∧
      wrnumText tab d a = [romOf tab (BitVec.ofNat 6 (b / 64)), romOf tab (BitVec.ofNat 6 (b % 64))]) ∧
    (∀ d a : Word32, (-32768 ≤ d.toInt ∧ d.toInt ≤ -1025) ∨ (1024 ≤ d.toInt ∧ d.toInt ≤ 32767) → ∃ b : Nat,
      (b : Int) = d.toInt + 32768 ∧ b ≤ 65535 ∧
      wrnumText tab d a = [32 + b / 4096, b / 64 % 64, b % 64].map fun k => romOf tab (BitVec.ofNat 6 k)) ∧
    (∀ d a : Word32, d.toInt ≤ -32769 ∨ 32768 ≤ d.toInt → ∃ v : Nat, v = a.toNat % 2 ^ 28 ∧
      wrnumText tab d a =
        [48 + v / 2 ^ 24, v / 2 ^ 18 % 64, v / 2 ^ 12 % 64, v / 2 ^ 6 % 64, v % 64].map
          fun k => romOf tab (BitVec.ofNat 6 k)) ∧
    (∀ a : Word32,
      wrnumText tab (BitVec.ofInt 32 (-1024)) a = [romOf tab 0, romOf tab 0] ∧
      wrnumText tab 0 a = [romOf tab 16, romOf tab 0] ∧
      wrnumText tab 1023 a = [romOf tab 31, romOf tab 63] ∧
      wrnumText tab (BitVec.ofInt 32 (-32768)) a = [romOf tab 32, romOf tab 0, romOf tab 0] ∧
      wrnumText tab (BitVec.ofInt 32 (-1025)) a = [romOf tab 39, romOf tab 47, romOf tab 63] ∧
      wrnumText tab 1024 a = [romOf tab 40, romOf tab 16, romOf tab 0] ∧
      wrnumText tab 32767 a = [romOf tab 47, romOf tab 63, romOf tab 63])

/-- Tier 3: DECNUM inverts WRNUM (the law of 41_number_decoder.md section 4, derived): for every delta and absolute value, DECNUM on
the emitted characters returns the tier and payload and pops exactly those characters, whatever follows, over every
admissible table. -/
def Obligations.DecnumInvertsWrnum : Prop :=
  ∀ (tab : Config.Table) (d a : Word32) (rest : List (Item Char8)), Config.Admissible tab →
    decnumOn tab ((wrnumText tab d a).map .data ++ rest) =
      .value (tierOfDelta d) (if tierOfDelta d = .full then a &&& 0x0FFFFFFF else d) (wrnumText tab d a).length rest

/-- The steps of RDNUM in `UNIT` do what its whole definition does (41_number_decoder.md section 1): from the first step, with an
input on which the read ends, the machine reaches the end with the value, or the exception, the pops and the rest of SI that
`rdnumLoop` gives; nothing but the named registers changes. Over every table. -/
def Obligations.RdnumStepsMeetItsDefinition : Prop :=
  ∀ (tab : Config.Table) (s : State) (n : BitVec 3), s.rst = false → s.st = .unit → s.upos = .entry →
    decodeCommand s.cmd = .ok (.rdnum n) →
    (∀ num pops rest, rdnumLoop tab n.toNat 0 0 s.si = .value num pops rest → ∃ k, RunsToOf tab k s
      { s with num := num, cnt := 0, cur := s.cur + pops, si := rest, res := num.setWidth 64, resv := true,
               doneFlag := true, st := .idle, upos := .entry }) ∧
    (∀ pops rest, rdnumLoop tab n.toNat 0 0 s.si = .exhausted pops rest → ∃ k t, RunsToOf tab k s t ∧
      { t with num := s.num, cnt := s.cnt } =
        { s with cur := s.cur + pops, si := rest, err := .bufferExhausted, doneFlag := true, st := .idle,
                 upos := .entry })

/-- The steps of DECNUM in `UNIT` do what its whole definition does (41_number_decoder.md section 2), the hidden latches `P`, `TIER`,
`NUM`, `CNT` aside. Over every table. -/
def Obligations.DecnumStepsMeetItsDefinition : Prop :=
  ∀ (tab : Config.Table) (s : State), s.rst = false → s.st = .unit → s.upos = .entry →
    decodeCommand s.cmd = .ok .decnum →
    (∀ tier v pops rest, decnumOn tab s.si = .value tier v pops rest → ∃ k t, RunsToOf tab k s t ∧
      { t with p := s.p, tier := s.tier, num := s.num, cnt := s.cnt } =
        { s with cur := s.cur + pops, si := rest, res := 0#30 ++ (tier.code ++ v), resv := true, doneFlag := true,
                 st := .idle, upos := .entry }) ∧
    (∀ pops rest, decnumOn tab s.si = .exhausted pops rest → ∃ k t, RunsToOf tab k s t ∧
      { t with p := s.p, tier := s.tier, num := s.num, cnt := s.cnt } =
        { s with cur := s.cur + pops, si := rest, err := .bufferExhausted, doneFlag := true, st := .idle,
                 upos := .entry })

/-- The steps of WRNUM in `UNIT` do what its whole definition does (42_number_encoder.md): with the sink ready the machine pushes
exactly the characters of the number and ends with the count in `RES`, `OSR` and `OCNT` at 0. Over every table. -/
def Obligations.WrnumStepsMeetItsDefinition : Prop :=
  ∀ (tab : Config.Table) (s : State) (d a : Word32), s.rst = false → s.st = .unit → s.upos = .entry → s.soReady = true →
    decodeCommand s.cmd = .ok (.wrnum d a) → ∃ k, RunsToOf tab k s
      { s with so := s.so ++ wrnumText tab d a, osr := 0, ocnt := 0, res := (encoderCount d).setWidth 64, resv := true,
               doneFlag := true, st := .idle, upos := .entry }

/-! ## Unit operations: coordinate transform -/

/-- TOFIXX and TOFIXY in `UNIT` (43_coordinate_transform.md section 2, decisions D4, D6): the formula's value in `RES[31:0]` with the
high half 0; where the formula gives no s32, the next free value, whichever it is, and the draw is counted (log 4). Nothing else
changes, and no input raises an exception. -/
def Obligations.TofixReturnsTheFixedValue : Prop :=
  ∀ (w : Word64) (s : State), s.st = .unit →
    (∀ v, toFixedX w = some v →
      exec (.tofixx w) s = .next { s with res := v.setWidth 64, resv := true, doneFlag := true, st := .idle,
                                          upos := .entry }) ∧
    (toFixedX w = none →
      exec (.tofixx w) s = .next { s with res := (Config.any32 s.draws).setWidth 64, draws := s.draws + 1, resv := true,
                                          doneFlag := true, st := .idle, upos := .entry }) ∧
    (∀ v, toFixedY w = some v →
      exec (.tofixy w) s = .next { s with res := v.setWidth 64, resv := true, doneFlag := true, st := .idle,
                                          upos := .entry }) ∧
    (toFixedY w = none →
      exec (.tofixy w) s = .next { s with res := (Config.any32 s.draws).setWidth 64, draws := s.draws + 1, resv := true,
                                          doneFlag := true, st := .idle, upos := .entry })

/-- The formula of TOFIXX and TOFIXY (43_coordinate_transform.md section 2, decisions D4, D5): add, multiply by 2^28, divide,
evaluated left to right in binary64, then the nearest integer with halves away from zero, where that is an s32. -/
def Obligations.TofixFollowsTheFormula : Prop :=
  (∀ (w : Word64) (v : Word32), toFixedX w = some v ↔ ∃ neg m e,
    fdiv (fmul (fadd (unpack w) (ofInt 180)) (ofInt 268435456)) (ofInt 360) = .fin neg m e ∧
      -2147483648 ≤ roundAway neg m e ∧ roundAway neg m e ≤ 2147483647 ∧ v.toInt = roundAway neg m e) ∧
  (∀ (w : Word64) (v : Word32), toFixedY w = some v ↔ ∃ neg m e,
    fdiv (fmul (fadd (unpack w) (ofInt 90)) (ofInt 268435456)) (ofInt 180) = .fin neg m e ∧
      -2147483648 ≤ roundAway neg m e ∧ roundAway neg m e ≤ 2147483647 ∧ v.toInt = roundAway neg m e)

/-- `RNE64` (00_scope.md section 5; the IEEE definitions are general knowledge, G2): a finite result has at most 53 significant bits
and lies within half a unit in its last place of the exact value n / d * 2^e, on a tie with an even significand (below a power
of two, where the neighbour is half as far, within a quarter); an infinity
results only where the exact value is at or above the midpoint beyond the largest finite number. -/
def Obligations.RoundingIsToNearestEven : Prop :=
  ∀ (neg : Bool) (n d : Nat) (e : Int), 0 < n → 0 < d →
    roundTo64 neg n d e ≠ .nan ∧
    (∀ neg' m q, roundTo64 neg n d e = .fin neg' m q →
      neg' = neg ∧ m < 2 ^ 53 ∧ -1074 ≤ q ∧ q ≤ 971 ∧ (2 ^ 52 ≤ m ∨ q = -1074) ∧
      2 * m * scaleUp d (q - e) ≤ 2 * scaleUp n (e - q) + scaleUp d (q - e) ∧
      2 * scaleUp n (e - q) ≤ 2 * m * scaleUp d (q - e) + scaleUp d (q - e) ∧
      (2 * m * scaleUp d (q - e) = 2 * scaleUp n (e - q) + scaleUp d (q - e) ∨
        2 * scaleUp n (e - q) = 2 * m * scaleUp d (q - e) + scaleUp d (q - e) → m % 2 = 0) ∧
      (m = 2 ^ 52 → -1074 < q → 4 * m * scaleUp d (q - e) ≤ 4 * scaleUp n (e - q) + scaleUp d (q - e))) ∧
    (∀ neg', roundTo64 neg n d e = .inf neg' →
      neg' = neg ∧ (2 ^ 54 - 1) * scaleUp d (970 - e) ≤ scaleUp n (e - 970))

/-- `round_away` (43_coordinate_transform.md section 1, decision D5): for a value below an integer exponent the result is the
nearest integer of its magnitude, a half going to the larger magnitude; an integer value is itself. -/
def Obligations.RoundAwayIsNearest : Prop :=
  ∀ (neg : Bool) (m : Nat) (e : Int),
    (0 ≤ e → roundAway neg m e = (if neg then -1 else 1) * ((m * 2 ^ e.toNat : Nat) : Int)) ∧
    (e < 0 → ∃ k : Nat, roundAway neg m e = (if neg then -1 else 1) * (k : Int) ∧
      2 * k * 2 ^ (-e).toNat ≤ 2 * m + 2 ^ (-e).toNat ∧ 2 * m < 2 * k * 2 ^ (-e).toNat + 2 ^ (-e).toNat)

/-- TODEGX and TODEGY in `UNIT` (43_coordinate_transform.md section 3, decision D7): the result is finite and its value is exactly
n * 360 / 2^28 - 180, or n * 180 / 2^28 - 90, with n read as s32 (both sides times 2^1074); it goes to `RES` with `RESV` and `DONE`;
nothing else changes. -/
def Obligations.TodegReturnsTheExactDegrees : Prop :=
  ∀ (n : Word32) (s : State), s.st = .unit →
    (∃ r : Word64, exec (.todegx n) s = .next { s with res := r, resv := true, doneFlag := true, st := .idle,
                                                        upos := .entry } ∧
      ∃ neg m e, unpack r = .fin neg m e ∧ -1074 ≤ e ∧
        signedAt neg m e (-1074) = (n.toInt * 360 - 180 * 2 ^ 28) * 2 ^ 1046) ∧
    (∃ r : Word64, exec (.todegy n) s = .next { s with res := r, resv := true, doneFlag := true, st := .idle,
                                                        upos := .entry } ∧
      ∃ neg m e, unpack r = .fin neg m e ∧ -1074 ≤ e ∧
        signedAt neg m e (-1074) = (n.toInt * 180 - 90 * 2 ^ 28) * 2 ^ 1046)

/-- The three-operation form of TODEGX and TODEGY gives the same pattern for every s32 (43_coordinate_transform.md section 3, decision
D7: every operation is exact). -/
def Obligations.TodegThreeOperationsAgree : Prop :=
  ∀ n : Word32,
    pack (fsub (fdiv (fmul (ofInt n.toInt) (ofInt 360)) (ofInt 268435456)) (ofInt 180)) = toDegreesX n ∧
    pack (fsub (fdiv (fmul (ofInt n.toInt) (ofInt 180)) (ofInt 268435456)) (ofInt 90)) = toDegreesY n

/-- Re-quantization: TOFIX of TODEG gives the fixed value back, for every s32 and both axes. 43_coordinate_transform.md section 4
derives it for 0 .. 2^28 - 1 by computation; the extension to every s32 is this statement's own, from the formulas of sections 2
and 3 (decisions D4 to D7). -/
def Obligations.TransformRoundTrips : Prop :=
  ∀ n : Word32, toFixedX (toDegreesX n) = some n ∧ toFixedY (toDegreesY n) = some n

/-! ## Unit operations: delta accumulator -/

/-- R131: ACLR's code, whatever the operands; in `UNIT` both accumulators to 0 and `DONE`; `AXIS`, `RES`, `RESV` and everything
else keep their values; the accumulators are 0 when a DECODE or ENCODE has been accepted; and the rule's example. -/
def Obligations.AclrClearsBothAccumulators : Prop :=
  (∀ opa opb, decodeCommand ⟨10, opa, opb⟩ = .ok .aclr) ∧
  (∀ s : State, s.st = .unit →
    exec .aclr s = .next { s with ax := 0, ay := 0, doneFlag := true, st := .idle, upos := .entry }) ∧
  (∀ (s : State) (c : Command), s.st = .idle → s.port = some c →
    (∃ t, exec .decode s = .next t ∧ t.ax = 0 ∧ t.ay = 0) ∧ (∃ t, exec .encode s = .next t ∧ t.ax = 0 ∧ t.ay = 0)) ∧
  (∀ s : State, s.st = .unit → ∃ t u, exec (.aload .x 7) s = .next t ∧ t.ax = 7 ∧
    exec .aclr { t with st := .unit } = .next u ∧ u.ax = 0)

/-- AADD, ALOAD, ADIFF in `UNIT` (44_delta_accumulator.md; arithmetic modulo 2^32 is decision D8): their codes and operand fields,
the new accumulator or the difference, returned zero-extended; the other accumulator and everything else keep their values. -/
def Obligations.AccumulatorOperations : Prop :=
  (∀ opa opb, decodeCommand ⟨11, opa, opb⟩ = .ok (.aadd (if opa.getLsbD 0 then .y else .x) (opb.setWidth 32)) ∧
    decodeCommand ⟨12, opa, opb⟩ = .ok (.aload (if opa.getLsbD 0 then .y else .x) (opb.setWidth 32)) ∧
    decodeCommand ⟨13, opa, opb⟩ = .ok (.adiff (if opa.getLsbD 0 then .y else .x) (opb.setWidth 32))) ∧
  (∀ (v : Word32) (s : State), s.st = .unit →
    exec (.aadd .x v) s = .next { s with ax := BitVec.ofNat 32 (s.ax.toNat + v.toNat),
                                         res := BitVec.ofNat 64 ((s.ax.toNat + v.toNat) % 2 ^ 32), resv := true,
                                         doneFlag := true, st := .idle, upos := .entry } ∧
    exec (.aadd .y v) s = .next { s with ay := BitVec.ofNat 32 (s.ay.toNat + v.toNat),
                                         res := BitVec.ofNat 64 ((s.ay.toNat + v.toNat) % 2 ^ 32), resv := true,
                                         doneFlag := true, st := .idle, upos := .entry } ∧
    exec (.aload .x v) s = .next { s with ax := v, res := v.setWidth 64, resv := true, doneFlag := true, st := .idle,
                                          upos := .entry } ∧
    exec (.aload .y v) s = .next { s with ay := v, res := v.setWidth 64, resv := true, doneFlag := true, st := .idle,
                                          upos := .entry } ∧
    exec (.adiff .x v) s = .next { s with res := BitVec.ofNat 64 ((v.toNat + (2 ^ 32 - s.ax.toNat)) % 2 ^ 32),
                                          resv := true, doneFlag := true, st := .idle, upos := .entry } ∧
    exec (.adiff .y v) s = .next { s with res := BitVec.ofNat 64 ((v.toNat + (2 ^ 32 - s.ay.toNat)) % 2 ^ 32),
                                          resv := true, doneFlag := true, st := .idle, upos := .entry })

/-! ## Number forms and symbols -/

/-- The number forms in `D_APPLY` (41_number_decoder.md section 3, 45_sequence_fsm.md section 2, decision D26): ADDS and ADDM add their
delta modulo 2^32 to the accumulator of the current axis, SETF replaces it; after X the axis turns to Y at the next number
boundary, after Y the point is emitted next. Nothing else changes. -/
def Obligations.NumberFormsUpdateTheAccumulator : Prop :=
  ∀ s : State, s.st = .dApply →
    (∀ (d : Int) (v : BitVec 28), s.axis = .x →
      exec (.adds d) s = .next { s with ax := s.ax + BitVec.ofInt 32 d, axis := .y, st := .dNext } ∧
      exec (.addm d) s = .next { s with ax := s.ax + BitVec.ofInt 32 d, axis := .y, st := .dNext } ∧
      exec (.setf v) s = .next { s with ax := BitVec.ofNat 32 v.toNat, axis := .y, st := .dNext }) ∧
    (∀ (d : Int) (v : BitVec 28), s.axis = .y →
      exec (.adds d) s = .next { s with ay := s.ay + BitVec.ofInt 32 d, st := .dEmit } ∧
      exec (.addm d) s = .next { s with ay := s.ay + BitVec.ofInt 32 d, st := .dEmit } ∧
      exec (.setf v) s = .next { s with ay := BitVec.ofNat 32 v.toNat, st := .dEmit })

/-- The symbols SYM_00 to SYM_63, each with its index (40_symbol_rom.md section 2, decision D1; 45_sequence_fsm.md section 2, decision
D26; 41_number_decoder.md): at the head of SI, as the probe it is latched with the tier it selects; as a further symbol it is
shifted into `NUM` and counted, the last one leading to `D_APPLY` or to the end of RDNUM or DECNUM with its result. Nothing else
changes. The 39 general-knowledge characters rest on log 3, the RDNUM and DECNUM clauses on the model's cut of `UNIT` and its
latches (logs 6, 11), and any character may stand at the head of SI (log 18). -/
def Obligations.SymbolsCarrySixBits : Prop :=
  ∀ r ∈ symbolRows, ∀ (s : State) (c : Char8) (rest : List (Item Char8)), s.si = .data c :: rest →
    decode (.text [rom r.2]) = .ok r.1 ∧
    (s.st = .dProbe → exec r.1 s = .next
      { s with si := rest, cur := s.cur + 1, p := r.2, tier := tierOf r.2, cnt := BitVec.ofNat 3 (tierOf r.2).extra,
               num := 0, st := .dExtra }) ∧
    (s.st = .dExtra → exec r.1 s = .next
      { s with si := rest, cur := s.cur + 1, num := s.num <<< 6 ||| r.2.setWidth 32, cnt := s.cnt - 1#3,
               st := if s.cnt = 1#3 then .dApply else .dExtra }) ∧
    (s.st = .unit → s.upos = .probe → exec r.1 s = .next
      { s with si := rest, cur := s.cur + 1, p := r.2, tier := tierOf r.2, cnt := BitVec.ofNat 3 (tierOf r.2).extra,
               num := 0, upos := .extra }) ∧
    (s.st = .unit → s.upos = .read ∨ s.upos = .extra → s.cnt ≠ 1#3 → exec r.1 s = .next
      { s with si := rest, cur := s.cur + 1, num := s.num <<< 6 ||| r.2.setWidth 32, cnt := s.cnt - 1#3 }) ∧
    (s.st = .unit → s.upos = .read → s.cnt = 1#3 → exec r.1 s = .next
      { s with si := rest, cur := s.cur + 1, num := s.num <<< 6 ||| r.2.setWidth 32, cnt := 0,
               res := (s.num <<< 6 ||| r.2.setWidth 32).setWidth 64, resv := true, doneFlag := true, st := .idle,
               upos := .entry }) ∧
    (s.st = .unit → s.upos = .extra → s.cnt = 1#3 → exec r.1 s = .next
      { s with si := rest, cur := s.cur + 1, num := s.num <<< 6 ||| r.2.setWidth 32, cnt := 0,
               res := 0#30 ++ (s.tier.code ++ payloadOf s.tier s.p (s.num <<< 6 ||| r.2.setWidth 32)), resv := true,
               doneFlag := true, st := .idle, upos := .entry })

/-! ## The passes, state by state -/

/-- DECODE at its boundaries (45_sequence_fsm.md section 2, decisions D10, D26): `D_NEXT` waits, ends the pass at `END`, or begins a
number without a pop; `D_EMIT` pushes the point of the accumulators and turns to X, or waits for the sink; the reading states
wait, or raise at `END`. Nothing else changes. -/
def Obligations.DecodeStatesFollowTheTable : Prop :=
  ∀ s : State,
    (s.st = .dNext → s.si = [] → exec .decode s = .next s) ∧
    (∀ rest, s.st = .dNext → s.si = .endTok :: rest →
      exec .decode s = .next { s with si := rest, doneFlag := true, st := .idle, upos := .entry }) ∧
    (∀ c rest, s.st = .dNext → s.si = .data c :: rest →
      exec .decode s = .next { s with num := 0, cnt := 1, st := .dProbe }) ∧
    (s.st = .dEmit → s.poReady = true → exec .decode s = .next
      { s with po := s.po ++ [⟨toDegreesX s.ax, toDegreesY s.ay⟩], axis := .x, st := .dNext }) ∧
    (s.st = .dEmit → s.poReady = false → exec .decode s = .next s) ∧
    (s.st = .dProbe ∨ s.st = .dExtra → s.si = [] → exec .decode s = .next s) ∧
    (∀ rest, s.st = .dProbe ∨ s.st = .dExtra → s.si = .endTok :: rest →
      exec .decode s = .next { s with err := .bufferExhausted, doneFlag := true, si := rest, st := .idle,
                                      upos := .entry })

/-- ENCODE, state by state (45_sequence_fsm.md section 3, decision D26): the point boundary, the loading of each number, the pushes with
their waits, and the update of the accumulators only after both numbers are out. A coordinate without a fixed value takes the next
free value, whichever it is (log 4). Nothing else changes. -/
def Obligations.EncodeStatesFollowTheTable : Prop :=
  ∀ s : State,
    (s.st = .eNext → s.pi = [] → exec .encode s = .next s) ∧
    (∀ rest, s.st = .eNext → s.pi = .endTok :: rest →
      exec .encode s = .next { s with pi := rest, doneFlag := true, st := .idle, upos := .entry }) ∧
    (∀ pt rest x y, s.st = .eNext → s.pi = .data pt :: rest → toFixedX pt.x = some x → toFixedY pt.y = some y →
      exec .encode s = .next { s with pi := rest, cur := s.cur + 1, fx := x, fy := y, st := .eNumX }) ∧
    (∀ pt rest, s.st = .eNext → s.pi = .data pt :: rest → toFixedX pt.x = none → toFixedY pt.y = none →
      exec .encode s = .next { s with pi := rest, cur := s.cur + 1, fx := Config.any32 s.draws,
                                      fy := Config.any32 (s.draws + 1), draws := s.draws + 2, st := .eNumX }) ∧
    (∀ pt rest x, s.st = .eNext → s.pi = .data pt :: rest → toFixedX pt.x = some x → toFixedY pt.y = none →
      exec .encode s = .next { s with pi := rest, cur := s.cur + 1, fx := x, fy := Config.any32 s.draws,
                                      draws := s.draws + 1, st := .eNumX }) ∧
    (∀ pt rest y, s.st = .eNext → s.pi = .data pt :: rest → toFixedX pt.x = none → toFixedY pt.y = some y →
      exec .encode s = .next { s with pi := rest, cur := s.cur + 1, fx := Config.any32 s.draws, fy := y,
                                      draws := s.draws + 1, st := .eNumX }) ∧
    (s.st = .eNumX → exec .encode s = .next
      { s with osr := encoderWord (s.fx - s.ax) s.fx, ocnt := encoderCount (s.fx - s.ax), st := .eShX }) ∧
    (s.st = .eNumY → exec .encode s = .next
      { s with osr := encoderWord (s.fy - s.ay) s.fy, ocnt := encoderCount (s.fy - s.ay), st := .eShY }) ∧
    (s.st = .eShX → s.soReady = true → exec .encode s = .next
      { s with so := s.so ++ [rom (s.osr.extractLsb' 24 6)], osr := s.osr <<< 6, ocnt := s.ocnt - 1#3,
               st := if s.ocnt = 1#3 then .eNumY else .eShX }) ∧
    (s.st = .eShY → s.soReady = true → exec .encode s = .next
      { s with so := s.so ++ [rom (s.osr.extractLsb' 24 6)], osr := s.osr <<< 6, ocnt := s.ocnt - 1#3,
               st := if s.ocnt = 1#3 then .eUpd else .eShY }) ∧
    (s.st = .eShX ∨ s.st = .eShY → s.soReady = false → exec .encode s = .next s) ∧
    (s.st = .eUpd → exec .encode s = .next { s with ax := s.fx, ay := s.fy, st := .eNext })

/-! ## The passes as wholes -/

/-- Refinement: the steps of an accepted DECODE do what the whole-pass form does (45_sequence_fsm.md sections 2 and 6; the
agreement is derived there, the form is decision D10): with `rst` low and the point sink ready, a command of code 14 on the port of
an idle block leads to the end that `decodePass` gives on what SI holds, normal or by BufferExhausted, with its accumulators, axis,
cursor, points and rest of SI; `RES` is not written and `RESV` is 0, and the
port's transfer is over (log 24). Over every table. -/
def Obligations.DecodeStepsMeetTheWholePass : Prop :=
  ∀ (tab : Config.Table) (s : State) (c : Command), s.rst = false → s.st = .idle → s.port = some c → c.op = 14#4 →
    s.poReady = true →
    (∀ r rest, decodePass tab s.si = .ok r rest → ∃ k t, RunsToOf tab k s t ∧ t.st = .idle ∧ t.doneFlag = true ∧ t.err = .none ∧
      t.ax = r.ax ∧ t.ay = r.ay ∧ t.axis = r.axis ∧ t.cur = r.cur ∧ t.po = s.po ++ r.points ∧ t.si = rest ∧
      t.so = s.so ∧ t.pi = s.pi ∧ t.res = s.res ∧ t.resv = false ∧ t.port = none) ∧
    (∀ r rest, decodePass tab s.si = .exhausted r rest → ∃ k t, RunsToOf tab k s t ∧ t.st = .idle ∧ t.doneFlag = true ∧
      t.err = .bufferExhausted ∧ t.ax = r.ax ∧ t.ay = r.ay ∧ t.axis = r.axis ∧ t.cur = r.cur ∧
      t.po = s.po ++ r.points ∧ t.si = rest ∧ t.so = s.so ∧ t.pi = s.pi ∧ t.res = s.res ∧ t.resv = false ∧
      t.port = none)

/-- Refinement: the steps of an accepted ENCODE do what the whole-pass form does (45_sequence_fsm.md sections 3 and 6; the
agreement is derived there): with
`rst` low and the character sink ready, a command of code 15 on the port of an idle block leads to the normal end that `encodePass`
gives on what PI holds, with its accumulators, cursor, characters, rest of PI and count of free values drawn. The counter and
the order of the draws are the model's (logs 4, 21); the port's transfer is over (log 24). Over every table. -/
def Obligations.EncodeStepsMeetTheWholePass : Prop :=
  ∀ (tab : Config.Table) (s : State) (c : Command), s.rst = false → s.st = .idle → s.port = some c → c.op = 15#4 →
    s.soReady = true →
    ∀ r rest, encodePass tab s.draws s.pi = .ok r rest → ∃ k t, RunsToOf tab k s t ∧ t.st = .idle ∧ t.doneFlag = true ∧
      t.err = .none ∧ t.ax = r.ax ∧ t.ay = r.ay ∧ t.axis = .x ∧ t.cur = r.cur ∧ t.so = s.so ++ r.chars ∧ t.pi = rest ∧
      t.po = s.po ∧ t.si = s.si ∧ t.draws = r.draws ∧ t.res = s.res ∧ t.resv = false ∧ t.port = none

/-- Tier 3: the integer path is exact (43_coordinate_transform.md section 4, derived): for a point list whose fixed values all lie in
0 .. 2^28 - 1, DECODE of the text ENCODE makes ends normally with the points (TODEGX(TOFIXX), TODEGY(TOFIXY)), over every
admissible table. -/
def Obligations.DecodeInvertsEncodeOfPoints : Prop :=
  ∀ (tab : Config.Table) (draws : Nat) (pts : List Point) (fixed : List (Word32 × Word32)), Config.Admissible tab →
    List.Forall₂ (fun pt f => toFixedX pt.x = some f.1 ∧ toFixedY pt.y = some f.2 ∧ f.1.toNat < 2 ^ 28 ∧
      f.2.toNat < 2 ^ 28) pts fixed →
    decodeText tab (encodeText tab draws pts) = some (fixed.map fun f => ⟨toDegreesX f.1, toDegreesY f.2⟩)

/-- Every pass on a finite input ends, at the input's `END` and nowhere else (45_sequence_fsm.md section 4 and
70_reset_and_hazards.md section 3, derived): a DECODE after popping every character of the text once, with at most one point for
every four characters; an ENCODE of m points after m pops, with between 4m and 10m characters. Over every table. -/
def Obligations.EveryTextEndsAfterAllItsPops : Prop :=
  (∀ (tab : Config.Table) (text : List Char8) (more : List (Item Char8)), ∃ r,
    (decodePass tab (textItems text ++ more) = .ok r more ∨ decodePass tab (textItems text ++ more) = .exhausted r more) ∧
      r.cur = text.length ∧ 4 * r.points.length ≤ text.length) ∧
  (∀ (tab : Config.Table) (draws : Nat) (pts : List Point) (more : List (Item Point)), ∃ r,
    encodePass tab draws (pointItems pts ++ more) = .ok r more ∧ r.cur = pts.length ∧
      4 * pts.length ≤ r.chars.length ∧ r.chars.length ≤ 10 * pts.length)

/-- Fillers before the last symbol of a text do not change what it decodes to (41_number_decoder.md section 1 and property Q5 of
95_test_vectors.md, derived). Over every table. -/
def Obligations.FillersDoNotChangeThePoints : Prop :=
  ∀ (tab : Config.Table) (text : List Char8) (c : Char8), revOf tab c ≠ none →
    decodeText tab (text ++ [c]) = decodeText tab ((text.filter fun b => (revOf tab b).isSome) ++ [c])

/-- Trailing fillers make a complete text fail (45_sequence_fsm.md section 2, derived). Over every table. -/
def Obligations.TrailingFillersFail : Prop :=
  ∀ (tab : Config.Table) (text fillers : List Char8), (decodeText tab text).isSome = true → fillers ≠ [] →
    (∀ c ∈ fillers, revOf tab c = none) →
    decodeText tab (text ++ fillers) = none

/-- R171: the empty text and the empty list: an accepted DECODE on a lone `END`, or ENCODE, ends at its next step with nothing
popped and nothing pushed, `DONE` 1 and `ERR` 0. -/
def Obligations.EmptyInputGivesEmptyOutput : Prop :=
  ∀ (s : State) (c : Command), s.rst = false → s.st = .idle → s.port = some c →
    (∀ rest, c.op = 14#4 → s.si = .endTok :: rest → ∃ t, RunsTo 2 s t ∧ t.si = rest ∧ t.po = s.po ∧ t.so = s.so ∧
      t.cur = 0 ∧ t.doneFlag = true ∧ t.err = .none ∧ t.st = .idle) ∧
    (∀ rest, c.op = 15#4 → s.pi = .endTok :: rest → ∃ t, RunsTo 2 s t ∧ t.pi = rest ∧ t.po = s.po ∧ t.so = s.so ∧
      t.cur = 0 ∧ t.doneFlag = true ∧ t.err = .none ∧ t.st = .idle) ∧
    (∀ tab, decodeText tab [] = some []) ∧ (∀ tab draws, encodeText tab draws [] = [])

/-! ## The machine as a whole -/

/-- Reset values (70_reset_and_hazards.md section 1, decision D15): what the table of that section lists, of `State.reset`. -/
def Obligations.ResetLeavesTheListedValues : Prop :=
  State.reset.st = .idle ∧ State.reset.ax = 0 ∧ State.reset.ay = 0 ∧ State.reset.axis = .x ∧ State.reset.p = 0 ∧
  State.reset.tier.code = 0 ∧ State.reset.cnt = 0 ∧ State.reset.num = 0 ∧ State.reset.fx = 0 ∧ State.reset.fy = 0 ∧
  State.reset.osr = 0 ∧ State.reset.ocnt = 0 ∧ State.reset.res = 0 ∧ State.reset.resv = false ∧
  State.reset.doneFlag = false ∧ State.reset.err.code = 0 ∧ State.reset.cur = 0

/-- A step with `rst` high (70_reset_and_hazards.md section 1, decisions D12, D15): every listed register to its reset value, whatever
the block was doing, and no stream item removed or recalled. -/
def Obligations.ResetStepClearsTheRegisters : Prop :=
  ∀ s : State, s.rst = true → ∃ t, step s = .next t ∧
    t.st = .idle ∧ t.ax = 0 ∧ t.ay = 0 ∧ t.axis = .x ∧ t.p = 0 ∧ t.tier.code = 0 ∧ t.cnt = 0 ∧ t.num = 0 ∧ t.fx = 0 ∧
    t.fy = 0 ∧ t.osr = 0 ∧ t.ocnt = 0 ∧ t.res = 0 ∧ t.resv = false ∧ t.doneFlag = false ∧ t.err = .none ∧ t.cur = 0 ∧
    t.si = s.si ∧ t.pi = s.pi ∧ t.so = s.so ∧ t.po = s.po

/-- The invariant of `Safety` holds at reset, in this machine and over every table. -/
def Obligations.ResetIsSafe : Prop := Safety.Inv State.reset ∧ ∀ tab, InvOf tab State.reset

/-- Tier 3 (invariant): every step keeps `Safety.Inv`, from every state that has it: the legal values of `CNT`, `OCNT`, `NUM`
(10_state.md section 5), what each FSM state implies of the latches (45_sequence_fsm.md), a busy block not done and not in error
(70_reset_and_hazards.md section 4), only Alphabet characters on SO; in this machine and over every admissible table. -/
def Obligations.StepKeepsTheInvariant : Prop :=
  (∀ s t : State, Safety.Inv s → step s = .next t → Safety.Inv t) ∧
  (∀ tab, Config.Admissible tab → ∀ s t : State, InvOf tab s → stepOf tab s = .next t → InvOf tab t)

/-- Every move the host may make keeps the invariant (70_reset_and_hazards.md section 5, decisions D12, D13; logs 26,
27), over every table. -/
def Obligations.HostMovesKeepTheInvariant : Prop :=
  ∀ (tab : Config.Table) (m : HostMove) (s t : State), InvOf tab s → hostMove m s = some t → InvOf tab t

/-- No step of a good state stops the machine, unless the host presents the reserved RDNUM count it must not issue (60_exceptions.md
section 1; 93_implementation_defined.md U6, log 9): there is always a next state. A busy block holds its state exactly where it waits
for the host (70_reset_and_hazards.md section 4, decisions D12, D14; log 8). And on a run in which the FSM is not left out for ever
and the host does its duties (the same file, sections 3 to 5), every command that runs in a good state ends, over every admissible
table: with `DONE`, unless `rst` is asserted before. -/
def Obligations.NoStepIsRefused : Prop :=
  (∀ s : State, Safety.Inv s → PortAllowed s → ∃ t, step s = .next t) ∧
  (∀ s : State, Safety.Inv s → s.rst = false → s.busy = true → (step s = .next s ↔ s.waits = true)) ∧
  (∀ (tab : Config.Table) (r : Run) (n : Nat), Config.Admissible tab → r.Valid tab → r.FsmFair → r.HostFair →
    InvOf tab (r.state n) → (r.state n).rst = false → (r.state n).busy = true →
    ∃ m, n < m ∧ (r.state m).busy = false ∧
      ((∀ k, n ≤ k → k < m → r.event k ≠ .host .assertReset) → (r.state m).doneFlag = true))

/-- The exception (60_exceptions.md section 1, decisions D12, D17): in a good state whose FSM reads a symbol, `END` at the head of SI
makes the step take BufferExhausted, with exactly the listed effect; and no other step raises `ERR`. -/
def Obligations.ExceptionIsTakenExactlyAtEnd : Prop :=
  ∀ s : State, Safety.Inv s → s.rst = false →
    (∀ rest, s.si = .endTok :: rest → (s.st = .dProbe ∨ s.st = .dExtra ∨ s.unitReads = true) →
      step s = .next { s with err := .bufferExhausted, doneFlag := true, si := rest, st := .idle, upos := .entry }) ∧
    (∀ t, step s = .next t → s.err = .none → t.err = .bufferExhausted →
      (∃ rest, s.si = .endTok :: rest) ∧ (s.st = .dProbe ∨ s.st = .dExtra ∨ s.unitReads = true))

/-- The handshake outputs tell what a step does to the streams (45_sequence_fsm.md section 5, 20_memory.md section 3, decision D12; log
25): the
head of SI or PI leaves exactly when `si_ready` or `pi_ready` is 1, and a character or a point is appended to SO or PO exactly when
it is valid and the sink is ready; nothing already pushed is removed or changed. -/
def Obligations.HandshakesTellTheStreams : Prop :=
  ∀ s t : State, Safety.Inv s → s.rst = false → step s = .next t →
    t.si = (if (outputs s).siReady then s.si.tail else s.si) ∧
    t.pi = (if (outputs s).piReady then s.pi.tail else s.pi) ∧
    t.so = (if (outputs s).soValid && s.soReady then s.so ++ [(outputs s).soChar] else s.so) ∧
    t.po = (if (outputs s).poValid && s.poReady then s.po ++ [⟨(outputs s).poX, (outputs s).poY⟩] else s.po)

/-- The cursor (10_state.md section 3, decision D24): in a busy block a step adds exactly 1 to `CUR` when it pops a character or a
point, and nothing otherwise. -/
def Obligations.CursorCountsPops : Prop :=
  ∀ s t : State, Safety.Inv s → s.rst = false → s.st ≠ .idle → step s = .next t →
    t.cur = s.cur + (if ((outputs s).siReady && s.si.head? != some .endTok) ||
      ((outputs s).piReady && s.pi.head? != some .endTok) then 1 else 0)

/-- No carry-over (45_sequence_fsm.md section 1, decision D18; the isolation of a pass, 44_delta_accumulator.md): two states of a DECODE
pass that agree on what a pass uses make steps that agree on it again, so nothing in `RES`, ENCODE's latches, PI, SO, the latched
command, the port or the draw counter can reach a pass's points, flags or accumulators. -/
def Obligations.DecodeSeesOnlyItsOwnState : Prop :=
  ∀ s s' t : State, InDecode s → decodeView s = decodeView s' → step s = .next t →
    ∃ t', step s' = .next t' ∧ decodeView t' = decodeView t
end

