-- ==== Sys2Proof/Laws/Decode.lean ====
section
/-! SUPPORT. What the alphabet ROM, its reverse and the character decoder do, over any table and over this machine's. -/

namespace Sys2Proof

theorem rom_of_rev_all : ∀ c, ((rev c).all fun i => rom i == c) = true := by decide +kernel

/-- A found character is the ROM's character of its index. -/
theorem rom_of_rev (c : Char8) (i : Index) (h : rev c = some i) : rom i = c := by
  have h' := rom_of_rev_all c
  simpa [h] using h'

/-- The reverse table finds every ROM character at its index. -/
theorem rev_rom : ∀ i, rev (rom i) = some i := by decide +kernel

/-- The filler check of `wellFormed` and the reverse table agree. -/
theorem isFiller_iff_rev_none : ∀ c, isFiller c = true ↔ rev c = none := by decide +kernel

/-- A ROM character is no filler. -/
theorem isFiller_rom : ∀ i, isFiller (rom i) = false := by decide +kernel

theorem charInstrOf_of_some {tab : Config.Table} {c : Char8} {i : Index} (h : revOf tab c = some i) :
    charInstrOf tab c = symInstr i := by
  simp [charInstrOf, h]

theorem charInstrOf_of_none {tab : Config.Table} {c : Char8} (h : revOf tab c = none) : charInstrOf tab c = .skip c := by
  simp [charInstrOf, h]

/-! ## Any table of 64 distinct entries -/

/-- A found position is an entry of the table, and the entry is the character. -/
theorem findFrom_some {c : Char8} {tab : Config.Table} {k j : Nat} (h : findFrom c tab k = some j) :
    k ≤ j ∧ ∃ a, tab[j - k]? = some a ∧ (0#1 ++ a : BitVec 8) = c := by
  induction tab generalizing k with
  | nil => cases h
  | cons a tab ih =>
    rw [findFrom] at h
    split at h
    · next ha => cases h; exact ⟨le_rfl, a, by simp, ha⟩
    · obtain ⟨hk, b, hb, hc⟩ := ih h
      refine ⟨by omega, b, ?_, hc⟩
      rw [show j - k = (j - (k + 1)) + 1 by omega]
      simpa using hb

/-- A character is found nowhere exactly when it is a filler. -/
theorem findFrom_none {c : Char8} {tab : Config.Table} {k : Nat} : findFrom c tab k = none ↔ isFillerOf tab c = true := by
  induction tab generalizing k with
  | nil => simp [findFrom, isFillerOf]
  | cons a tab ih =>
    rw [findFrom]
    split
    · next ha => simp [isFillerOf, ha]
    · next ha =>
      rw [ih]
      simp [isFillerOf, ha]

/-- The filler check and the reverse table agree, over every table. -/
theorem isFillerOf_iff_revOf_none (tab : Config.Table) (c : Char8) : isFillerOf tab c = true ↔ revOf tab c = none := by
  rw [revOf, Option.map_eq_none_iff, findFrom_none]

/-- A zero bit in front of an ASCII code does not change its value. -/
theorem ascii_extend_toNat (a : Ascii) : (0#1 ++ a : BitVec 8).toNat = a.toNat := by
  rw [BitVec.toNat_append]; simp

/-- A zero bit in front of an ASCII code loses nothing. -/
theorem ascii_extend_inj {a b : Ascii} (h : (0#1 ++ a : BitVec 8) = 0#1 ++ b) : a = b :=
  BitVec.eq_of_toNat_eq (by rw [← ascii_extend_toNat, h, ascii_extend_toNat])

/-- A found character is the ROM's character of its index, over every table of 64 entries. -/
theorem romOf_of_revOf {tab : Config.Table} (hl : tab.length = 64) {c : Char8} {i : Index} (h : revOf tab c = some i) :
    romOf tab i = c := by
  rw [revOf, Option.map_eq_some_iff] at h
  obtain ⟨j, hj, rfl⟩ := h
  obtain ⟨-, a, ha, hc⟩ := findFrom_some hj
  have hlt : j < 64 := by
    have := (List.getElem?_eq_some_iff.mp ha).1
    omega
  rw [romOf, BitVec.toNat_ofNat, Nat.mod_eq_of_lt (by omega), List.getD_eq_getElem?_getD]
  simp only [Nat.sub_zero] at ha
  rw [ha]
  exact hc

/-- A ROM character of a table of 64 entries is found. -/
theorem revOf_romOf_isSome {tab : Config.Table} (hl : tab.length = 64) (i : Index) : (revOf tab (romOf tab i)).isSome := by
  rw [Option.isSome_iff_ne_none, Ne, ← isFillerOf_iff_revOf_none]
  have hi : i.toNat < tab.length := by omega
  simp only [isFillerOf, List.all_eq_true, bne_iff_ne, ne_eq]
  intro hall
  refine hall (tab[i.toNat]) (List.getElem_mem hi) ?_
  simp [romOf, hi]

/-- The reverse table finds every ROM character at its index, over every table of 64 distinct entries. -/
theorem revOf_romOf {tab : Config.Table} (hl : tab.length = 64) (hd : tab.Nodup) (i : Index) :
    revOf tab (romOf tab i) = some i := by
  obtain ⟨j, hj⟩ := Option.isSome_iff_exists.mp (revOf_romOf_isSome hl i)
  rw [hj]
  have h := romOf_of_revOf hl hj
  have hi : i.toNat < tab.length := by omega
  have hjl : j.toNat < tab.length := by omega
  simp only [romOf, List.getD_eq_getElem?_getD, List.getElem?_eq_getElem hi, List.getElem?_eq_getElem hjl,
    Option.getD_some] at h
  have := (List.Nodup.getElem_inj_iff hd).mp (ascii_extend_inj h)
  exact congrArg some (BitVec.eq_of_toNat_eq this)

/-- A ROM character is no filler, over every table of 64 entries. -/
theorem isFillerOf_romOf {tab : Config.Table} (hl : tab.length = 64) (i : Index) : isFillerOf tab (romOf tab i) = false := by
  have h := revOf_romOf_isSome hl i
  rw [Option.isSome_iff_ne_none, Ne, ← isFillerOf_iff_revOf_none] at h
  simpa using h

/-- The tier's length is 1, 2 or 4. -/
theorem Tier.extra_le (t : Tier) : 1 ≤ t.extra ∧ t.extra ≤ 4 := by cases t <;> decide

/-- Reading symbols gives exactly as many as asked for. -/
theorem takeSymbols_length {tab : Config.Table} {n : Nat} {cs : List Char8} {is : List Index} {rest : List Char8}
    (h : takeSymbols tab n cs = .ok (is, rest)) : is.length = n := by
  induction cs generalizing n is with
  | nil => cases n <;> simp_all [takeSymbols]
  | cons c cs ih =>
    cases n with
    | zero => simp_all [takeSymbols]
    | succ n =>
      rw [takeSymbols] at h
      split at h
      · exact ih h
      · split at h
        · next is' rest' hts =>
          simp only [Except.ok.injEq, Prod.mk.injEq] at h
          obtain ⟨rfl, rfl⟩ := h
          simp [ih hts]
        · cases h

end Sys2Proof
end

