-- ==== Sys2Proof/Laws/State.lean ====
section
/-! SUPPORT. One lemma per field per update of the state, true by unfolding, so that no later proof unfolds a record
update. -/

namespace Sys2Proof
namespace Machine

@[simp] theorem State.setResult_st (s : State) (r : Word64) :
    (s.setResult r).st = s.st := rfl
@[simp] theorem State.setResult_upos (s : State) (r : Word64) :
    (s.setResult r).upos = s.upos := rfl
@[simp] theorem State.setResult_ax (s : State) (r : Word64) :
    (s.setResult r).ax = s.ax := rfl
@[simp] theorem State.setResult_ay (s : State) (r : Word64) :
    (s.setResult r).ay = s.ay := rfl
@[simp] theorem State.setResult_axis (s : State) (r : Word64) :
    (s.setResult r).axis = s.axis := rfl
@[simp] theorem State.setResult_p (s : State) (r : Word64) :
    (s.setResult r).p = s.p := rfl
@[simp] theorem State.setResult_tier (s : State) (r : Word64) :
    (s.setResult r).tier = s.tier := rfl
@[simp] theorem State.setResult_cnt (s : State) (r : Word64) :
    (s.setResult r).cnt = s.cnt := rfl
@[simp] theorem State.setResult_num (s : State) (r : Word64) :
    (s.setResult r).num = s.num := rfl
@[simp] theorem State.setResult_fx (s : State) (r : Word64) :
    (s.setResult r).fx = s.fx := rfl
@[simp] theorem State.setResult_fy (s : State) (r : Word64) :
    (s.setResult r).fy = s.fy := rfl
@[simp] theorem State.setResult_osr (s : State) (r : Word64) :
    (s.setResult r).osr = s.osr := rfl
@[simp] theorem State.setResult_ocnt (s : State) (r : Word64) :
    (s.setResult r).ocnt = s.ocnt := rfl
@[simp] theorem State.setResult_res (s : State) (r : Word64) :
    (s.setResult r).res = r := rfl
@[simp] theorem State.setResult_resv (s : State) (r : Word64) :
    (s.setResult r).resv = true := rfl
@[simp] theorem State.setResult_doneFlag (s : State) (r : Word64) :
    (s.setResult r).doneFlag = s.doneFlag := rfl
@[simp] theorem State.setResult_err (s : State) (r : Word64) :
    (s.setResult r).err = s.err := rfl
@[simp] theorem State.setResult_cur (s : State) (r : Word64) :
    (s.setResult r).cur = s.cur := rfl
@[simp] theorem State.setResult_cmd (s : State) (r : Word64) :
    (s.setResult r).cmd = s.cmd := rfl
@[simp] theorem State.setResult_si (s : State) (r : Word64) :
    (s.setResult r).si = s.si := rfl
@[simp] theorem State.setResult_pi (s : State) (r : Word64) :
    (s.setResult r).pi = s.pi := rfl
@[simp] theorem State.setResult_so (s : State) (r : Word64) :
    (s.setResult r).so = s.so := rfl
@[simp] theorem State.setResult_po (s : State) (r : Word64) :
    (s.setResult r).po = s.po := rfl
@[simp] theorem State.setResult_port (s : State) (r : Word64) :
    (s.setResult r).port = s.port := rfl
@[simp] theorem State.setResult_rst (s : State) (r : Word64) :
    (s.setResult r).rst = s.rst := rfl
@[simp] theorem State.setResult_soReady (s : State) (r : Word64) :
    (s.setResult r).soReady = s.soReady := rfl
@[simp] theorem State.setResult_poReady (s : State) (r : Word64) :
    (s.setResult r).poReady = s.poReady := rfl
@[simp] theorem State.setResult_draws (s : State) (r : Word64) :
    (s.setResult r).draws = s.draws := rfl

@[simp] theorem State.endCommand_st (s : State) :
    s.endCommand.st = .idle := rfl
@[simp] theorem State.endCommand_upos (s : State) :
    s.endCommand.upos = .entry := rfl
@[simp] theorem State.endCommand_ax (s : State) :
    s.endCommand.ax = s.ax := rfl
@[simp] theorem State.endCommand_ay (s : State) :
    s.endCommand.ay = s.ay := rfl
@[simp] theorem State.endCommand_axis (s : State) :
    s.endCommand.axis = s.axis := rfl
@[simp] theorem State.endCommand_p (s : State) :
    s.endCommand.p = s.p := rfl
@[simp] theorem State.endCommand_tier (s : State) :
    s.endCommand.tier = s.tier := rfl
@[simp] theorem State.endCommand_cnt (s : State) :
    s.endCommand.cnt = s.cnt := rfl
@[simp] theorem State.endCommand_num (s : State) :
    s.endCommand.num = s.num := rfl
@[simp] theorem State.endCommand_fx (s : State) :
    s.endCommand.fx = s.fx := rfl
@[simp] theorem State.endCommand_fy (s : State) :
    s.endCommand.fy = s.fy := rfl
@[simp] theorem State.endCommand_osr (s : State) :
    s.endCommand.osr = s.osr := rfl
@[simp] theorem State.endCommand_ocnt (s : State) :
    s.endCommand.ocnt = s.ocnt := rfl
@[simp] theorem State.endCommand_res (s : State) :
    s.endCommand.res = s.res := rfl
@[simp] theorem State.endCommand_resv (s : State) :
    s.endCommand.resv = s.resv := rfl
@[simp] theorem State.endCommand_doneFlag (s : State) :
    s.endCommand.doneFlag = true := rfl
@[simp] theorem State.endCommand_err (s : State) :
    s.endCommand.err = s.err := rfl
@[simp] theorem State.endCommand_cur (s : State) :
    s.endCommand.cur = s.cur := rfl
@[simp] theorem State.endCommand_cmd (s : State) :
    s.endCommand.cmd = s.cmd := rfl
@[simp] theorem State.endCommand_si (s : State) :
    s.endCommand.si = s.si := rfl
@[simp] theorem State.endCommand_pi (s : State) :
    s.endCommand.pi = s.pi := rfl
@[simp] theorem State.endCommand_so (s : State) :
    s.endCommand.so = s.so := rfl
@[simp] theorem State.endCommand_po (s : State) :
    s.endCommand.po = s.po := rfl
@[simp] theorem State.endCommand_port (s : State) :
    s.endCommand.port = s.port := rfl
@[simp] theorem State.endCommand_rst (s : State) :
    s.endCommand.rst = s.rst := rfl
@[simp] theorem State.endCommand_soReady (s : State) :
    s.endCommand.soReady = s.soReady := rfl
@[simp] theorem State.endCommand_poReady (s : State) :
    s.endCommand.poReady = s.poReady := rfl
@[simp] theorem State.endCommand_draws (s : State) :
    s.endCommand.draws = s.draws := rfl

@[simp] theorem State.clearFlags_st (s : State) :
    s.clearFlags.st = s.st := rfl
@[simp] theorem State.clearFlags_upos (s : State) :
    s.clearFlags.upos = s.upos := rfl
@[simp] theorem State.clearFlags_ax (s : State) :
    s.clearFlags.ax = s.ax := rfl
@[simp] theorem State.clearFlags_ay (s : State) :
    s.clearFlags.ay = s.ay := rfl
@[simp] theorem State.clearFlags_axis (s : State) :
    s.clearFlags.axis = s.axis := rfl
@[simp] theorem State.clearFlags_p (s : State) :
    s.clearFlags.p = s.p := rfl
@[simp] theorem State.clearFlags_tier (s : State) :
    s.clearFlags.tier = s.tier := rfl
@[simp] theorem State.clearFlags_cnt (s : State) :
    s.clearFlags.cnt = s.cnt := rfl
@[simp] theorem State.clearFlags_num (s : State) :
    s.clearFlags.num = s.num := rfl
@[simp] theorem State.clearFlags_fx (s : State) :
    s.clearFlags.fx = s.fx := rfl
@[simp] theorem State.clearFlags_fy (s : State) :
    s.clearFlags.fy = s.fy := rfl
@[simp] theorem State.clearFlags_osr (s : State) :
    s.clearFlags.osr = s.osr := rfl
@[simp] theorem State.clearFlags_ocnt (s : State) :
    s.clearFlags.ocnt = s.ocnt := rfl
@[simp] theorem State.clearFlags_res (s : State) :
    s.clearFlags.res = s.res := rfl
@[simp] theorem State.clearFlags_resv (s : State) :
    s.clearFlags.resv = false := rfl
@[simp] theorem State.clearFlags_doneFlag (s : State) :
    s.clearFlags.doneFlag = false := rfl
@[simp] theorem State.clearFlags_err (s : State) :
    s.clearFlags.err = .none := rfl
@[simp] theorem State.clearFlags_cur (s : State) :
    s.clearFlags.cur = s.cur := rfl
@[simp] theorem State.clearFlags_cmd (s : State) :
    s.clearFlags.cmd = s.cmd := rfl
@[simp] theorem State.clearFlags_si (s : State) :
    s.clearFlags.si = s.si := rfl
@[simp] theorem State.clearFlags_pi (s : State) :
    s.clearFlags.pi = s.pi := rfl
@[simp] theorem State.clearFlags_so (s : State) :
    s.clearFlags.so = s.so := rfl
@[simp] theorem State.clearFlags_po (s : State) :
    s.clearFlags.po = s.po := rfl
@[simp] theorem State.clearFlags_port (s : State) :
    s.clearFlags.port = s.port := rfl
@[simp] theorem State.clearFlags_rst (s : State) :
    s.clearFlags.rst = s.rst := rfl
@[simp] theorem State.clearFlags_soReady (s : State) :
    s.clearFlags.soReady = s.soReady := rfl
@[simp] theorem State.clearFlags_poReady (s : State) :
    s.clearFlags.poReady = s.poReady := rfl
@[simp] theorem State.clearFlags_draws (s : State) :
    s.clearFlags.draws = s.draws := rfl

@[simp] theorem State.popSI_st (s : State) (rest : List (Item Char8)) :
    (s.popSI rest).st = s.st := rfl
@[simp] theorem State.popSI_upos (s : State) (rest : List (Item Char8)) :
    (s.popSI rest).upos = s.upos := rfl
@[simp] theorem State.popSI_ax (s : State) (rest : List (Item Char8)) :
    (s.popSI rest).ax = s.ax := rfl
@[simp] theorem State.popSI_ay (s : State) (rest : List (Item Char8)) :
    (s.popSI rest).ay = s.ay := rfl
@[simp] theorem State.popSI_axis (s : State) (rest : List (Item Char8)) :
    (s.popSI rest).axis = s.axis := rfl
@[simp] theorem State.popSI_p (s : State) (rest : List (Item Char8)) :
    (s.popSI rest).p = s.p := rfl
@[simp] theorem State.popSI_tier (s : State) (rest : List (Item Char8)) :
    (s.popSI rest).tier = s.tier := rfl
@[simp] theorem State.popSI_cnt (s : State) (rest : List (Item Char8)) :
    (s.popSI rest).cnt = s.cnt := rfl
@[simp] theorem State.popSI_num (s : State) (rest : List (Item Char8)) :
    (s.popSI rest).num = s.num := rfl
@[simp] theorem State.popSI_fx (s : State) (rest : List (Item Char8)) :
    (s.popSI rest).fx = s.fx := rfl
@[simp] theorem State.popSI_fy (s : State) (rest : List (Item Char8)) :
    (s.popSI rest).fy = s.fy := rfl
@[simp] theorem State.popSI_osr (s : State) (rest : List (Item Char8)) :
    (s.popSI rest).osr = s.osr := rfl
@[simp] theorem State.popSI_ocnt (s : State) (rest : List (Item Char8)) :
    (s.popSI rest).ocnt = s.ocnt := rfl
@[simp] theorem State.popSI_res (s : State) (rest : List (Item Char8)) :
    (s.popSI rest).res = s.res := rfl
@[simp] theorem State.popSI_resv (s : State) (rest : List (Item Char8)) :
    (s.popSI rest).resv = s.resv := rfl
@[simp] theorem State.popSI_doneFlag (s : State) (rest : List (Item Char8)) :
    (s.popSI rest).doneFlag = s.doneFlag := rfl
@[simp] theorem State.popSI_err (s : State) (rest : List (Item Char8)) :
    (s.popSI rest).err = s.err := rfl
@[simp] theorem State.popSI_cur (s : State) (rest : List (Item Char8)) :
    (s.popSI rest).cur = s.cur + 1 := rfl
@[simp] theorem State.popSI_cmd (s : State) (rest : List (Item Char8)) :
    (s.popSI rest).cmd = s.cmd := rfl
@[simp] theorem State.popSI_si (s : State) (rest : List (Item Char8)) :
    (s.popSI rest).si = rest := rfl
@[simp] theorem State.popSI_pi (s : State) (rest : List (Item Char8)) :
    (s.popSI rest).pi = s.pi := rfl
@[simp] theorem State.popSI_so (s : State) (rest : List (Item Char8)) :
    (s.popSI rest).so = s.so := rfl
@[simp] theorem State.popSI_po (s : State) (rest : List (Item Char8)) :
    (s.popSI rest).po = s.po := rfl
@[simp] theorem State.popSI_port (s : State) (rest : List (Item Char8)) :
    (s.popSI rest).port = s.port := rfl
@[simp] theorem State.popSI_rst (s : State) (rest : List (Item Char8)) :
    (s.popSI rest).rst = s.rst := rfl
@[simp] theorem State.popSI_soReady (s : State) (rest : List (Item Char8)) :
    (s.popSI rest).soReady = s.soReady := rfl
@[simp] theorem State.popSI_poReady (s : State) (rest : List (Item Char8)) :
    (s.popSI rest).poReady = s.poReady := rfl
@[simp] theorem State.popSI_draws (s : State) (rest : List (Item Char8)) :
    (s.popSI rest).draws = s.draws := rfl

@[simp] theorem State.popPI_st (s : State) (rest : List (Item Point)) :
    (s.popPI rest).st = s.st := rfl
@[simp] theorem State.popPI_upos (s : State) (rest : List (Item Point)) :
    (s.popPI rest).upos = s.upos := rfl
@[simp] theorem State.popPI_ax (s : State) (rest : List (Item Point)) :
    (s.popPI rest).ax = s.ax := rfl
@[simp] theorem State.popPI_ay (s : State) (rest : List (Item Point)) :
    (s.popPI rest).ay = s.ay := rfl
@[simp] theorem State.popPI_axis (s : State) (rest : List (Item Point)) :
    (s.popPI rest).axis = s.axis := rfl
@[simp] theorem State.popPI_p (s : State) (rest : List (Item Point)) :
    (s.popPI rest).p = s.p := rfl
@[simp] theorem State.popPI_tier (s : State) (rest : List (Item Point)) :
    (s.popPI rest).tier = s.tier := rfl
@[simp] theorem State.popPI_cnt (s : State) (rest : List (Item Point)) :
    (s.popPI rest).cnt = s.cnt := rfl
@[simp] theorem State.popPI_num (s : State) (rest : List (Item Point)) :
    (s.popPI rest).num = s.num := rfl
@[simp] theorem State.popPI_fx (s : State) (rest : List (Item Point)) :
    (s.popPI rest).fx = s.fx := rfl
@[simp] theorem State.popPI_fy (s : State) (rest : List (Item Point)) :
    (s.popPI rest).fy = s.fy := rfl
@[simp] theorem State.popPI_osr (s : State) (rest : List (Item Point)) :
    (s.popPI rest).osr = s.osr := rfl
@[simp] theorem State.popPI_ocnt (s : State) (rest : List (Item Point)) :
    (s.popPI rest).ocnt = s.ocnt := rfl
@[simp] theorem State.popPI_res (s : State) (rest : List (Item Point)) :
    (s.popPI rest).res = s.res := rfl
@[simp] theorem State.popPI_resv (s : State) (rest : List (Item Point)) :
    (s.popPI rest).resv = s.resv := rfl
@[simp] theorem State.popPI_doneFlag (s : State) (rest : List (Item Point)) :
    (s.popPI rest).doneFlag = s.doneFlag := rfl
@[simp] theorem State.popPI_err (s : State) (rest : List (Item Point)) :
    (s.popPI rest).err = s.err := rfl
@[simp] theorem State.popPI_cur (s : State) (rest : List (Item Point)) :
    (s.popPI rest).cur = s.cur + 1 := rfl
@[simp] theorem State.popPI_cmd (s : State) (rest : List (Item Point)) :
    (s.popPI rest).cmd = s.cmd := rfl
@[simp] theorem State.popPI_si (s : State) (rest : List (Item Point)) :
    (s.popPI rest).si = s.si := rfl
@[simp] theorem State.popPI_pi (s : State) (rest : List (Item Point)) :
    (s.popPI rest).pi = rest := rfl
@[simp] theorem State.popPI_so (s : State) (rest : List (Item Point)) :
    (s.popPI rest).so = s.so := rfl
@[simp] theorem State.popPI_po (s : State) (rest : List (Item Point)) :
    (s.popPI rest).po = s.po := rfl
@[simp] theorem State.popPI_port (s : State) (rest : List (Item Point)) :
    (s.popPI rest).port = s.port := rfl
@[simp] theorem State.popPI_rst (s : State) (rest : List (Item Point)) :
    (s.popPI rest).rst = s.rst := rfl
@[simp] theorem State.popPI_soReady (s : State) (rest : List (Item Point)) :
    (s.popPI rest).soReady = s.soReady := rfl
@[simp] theorem State.popPI_poReady (s : State) (rest : List (Item Point)) :
    (s.popPI rest).poReady = s.poReady := rfl
@[simp] theorem State.popPI_draws (s : State) (rest : List (Item Point)) :
    (s.popPI rest).draws = s.draws := rfl

@[simp] theorem State.pushSO_st (s : State) (c : Char8) :
    (s.pushSO c).st = s.st := rfl
@[simp] theorem State.pushSO_upos (s : State) (c : Char8) :
    (s.pushSO c).upos = s.upos := rfl
@[simp] theorem State.pushSO_ax (s : State) (c : Char8) :
    (s.pushSO c).ax = s.ax := rfl
@[simp] theorem State.pushSO_ay (s : State) (c : Char8) :
    (s.pushSO c).ay = s.ay := rfl
@[simp] theorem State.pushSO_axis (s : State) (c : Char8) :
    (s.pushSO c).axis = s.axis := rfl
@[simp] theorem State.pushSO_p (s : State) (c : Char8) :
    (s.pushSO c).p = s.p := rfl
@[simp] theorem State.pushSO_tier (s : State) (c : Char8) :
    (s.pushSO c).tier = s.tier := rfl
@[simp] theorem State.pushSO_cnt (s : State) (c : Char8) :
    (s.pushSO c).cnt = s.cnt := rfl
@[simp] theorem State.pushSO_num (s : State) (c : Char8) :
    (s.pushSO c).num = s.num := rfl
@[simp] theorem State.pushSO_fx (s : State) (c : Char8) :
    (s.pushSO c).fx = s.fx := rfl
@[simp] theorem State.pushSO_fy (s : State) (c : Char8) :
    (s.pushSO c).fy = s.fy := rfl
@[simp] theorem State.pushSO_osr (s : State) (c : Char8) :
    (s.pushSO c).osr = s.osr := rfl
@[simp] theorem State.pushSO_ocnt (s : State) (c : Char8) :
    (s.pushSO c).ocnt = s.ocnt := rfl
@[simp] theorem State.pushSO_res (s : State) (c : Char8) :
    (s.pushSO c).res = s.res := rfl
@[simp] theorem State.pushSO_resv (s : State) (c : Char8) :
    (s.pushSO c).resv = s.resv := rfl
@[simp] theorem State.pushSO_doneFlag (s : State) (c : Char8) :
    (s.pushSO c).doneFlag = s.doneFlag := rfl
@[simp] theorem State.pushSO_err (s : State) (c : Char8) :
    (s.pushSO c).err = s.err := rfl
@[simp] theorem State.pushSO_cur (s : State) (c : Char8) :
    (s.pushSO c).cur = s.cur := rfl
@[simp] theorem State.pushSO_cmd (s : State) (c : Char8) :
    (s.pushSO c).cmd = s.cmd := rfl
@[simp] theorem State.pushSO_si (s : State) (c : Char8) :
    (s.pushSO c).si = s.si := rfl
@[simp] theorem State.pushSO_pi (s : State) (c : Char8) :
    (s.pushSO c).pi = s.pi := rfl
@[simp] theorem State.pushSO_so (s : State) (c : Char8) :
    (s.pushSO c).so = s.so ++ [c] := rfl
@[simp] theorem State.pushSO_po (s : State) (c : Char8) :
    (s.pushSO c).po = s.po := rfl
@[simp] theorem State.pushSO_port (s : State) (c : Char8) :
    (s.pushSO c).port = s.port := rfl
@[simp] theorem State.pushSO_rst (s : State) (c : Char8) :
    (s.pushSO c).rst = s.rst := rfl
@[simp] theorem State.pushSO_soReady (s : State) (c : Char8) :
    (s.pushSO c).soReady = s.soReady := rfl
@[simp] theorem State.pushSO_poReady (s : State) (c : Char8) :
    (s.pushSO c).poReady = s.poReady := rfl
@[simp] theorem State.pushSO_draws (s : State) (c : Char8) :
    (s.pushSO c).draws = s.draws := rfl

@[simp] theorem State.pushPO_st (s : State) (pt : Point) :
    (s.pushPO pt).st = s.st := rfl
@[simp] theorem State.pushPO_upos (s : State) (pt : Point) :
    (s.pushPO pt).upos = s.upos := rfl
@[simp] theorem State.pushPO_ax (s : State) (pt : Point) :
    (s.pushPO pt).ax = s.ax := rfl
@[simp] theorem State.pushPO_ay (s : State) (pt : Point) :
    (s.pushPO pt).ay = s.ay := rfl
@[simp] theorem State.pushPO_axis (s : State) (pt : Point) :
    (s.pushPO pt).axis = s.axis := rfl
@[simp] theorem State.pushPO_p (s : State) (pt : Point) :
    (s.pushPO pt).p = s.p := rfl
@[simp] theorem State.pushPO_tier (s : State) (pt : Point) :
    (s.pushPO pt).tier = s.tier := rfl
@[simp] theorem State.pushPO_cnt (s : State) (pt : Point) :
    (s.pushPO pt).cnt = s.cnt := rfl
@[simp] theorem State.pushPO_num (s : State) (pt : Point) :
    (s.pushPO pt).num = s.num := rfl
@[simp] theorem State.pushPO_fx (s : State) (pt : Point) :
    (s.pushPO pt).fx = s.fx := rfl
@[simp] theorem State.pushPO_fy (s : State) (pt : Point) :
    (s.pushPO pt).fy = s.fy := rfl
@[simp] theorem State.pushPO_osr (s : State) (pt : Point) :
    (s.pushPO pt).osr = s.osr := rfl
@[simp] theorem State.pushPO_ocnt (s : State) (pt : Point) :
    (s.pushPO pt).ocnt = s.ocnt := rfl
@[simp] theorem State.pushPO_res (s : State) (pt : Point) :
    (s.pushPO pt).res = s.res := rfl
@[simp] theorem State.pushPO_resv (s : State) (pt : Point) :
    (s.pushPO pt).resv = s.resv := rfl
@[simp] theorem State.pushPO_doneFlag (s : State) (pt : Point) :
    (s.pushPO pt).doneFlag = s.doneFlag := rfl
@[simp] theorem State.pushPO_err (s : State) (pt : Point) :
    (s.pushPO pt).err = s.err := rfl
@[simp] theorem State.pushPO_cur (s : State) (pt : Point) :
    (s.pushPO pt).cur = s.cur := rfl
@[simp] theorem State.pushPO_cmd (s : State) (pt : Point) :
    (s.pushPO pt).cmd = s.cmd := rfl
@[simp] theorem State.pushPO_si (s : State) (pt : Point) :
    (s.pushPO pt).si = s.si := rfl
@[simp] theorem State.pushPO_pi (s : State) (pt : Point) :
    (s.pushPO pt).pi = s.pi := rfl
@[simp] theorem State.pushPO_so (s : State) (pt : Point) :
    (s.pushPO pt).so = s.so := rfl
@[simp] theorem State.pushPO_po (s : State) (pt : Point) :
    (s.pushPO pt).po = s.po ++ [pt] := rfl
@[simp] theorem State.pushPO_port (s : State) (pt : Point) :
    (s.pushPO pt).port = s.port := rfl
@[simp] theorem State.pushPO_rst (s : State) (pt : Point) :
    (s.pushPO pt).rst = s.rst := rfl
@[simp] theorem State.pushPO_soReady (s : State) (pt : Point) :
    (s.pushPO pt).soReady = s.soReady := rfl
@[simp] theorem State.pushPO_poReady (s : State) (pt : Point) :
    (s.pushPO pt).poReady = s.poReady := rfl
@[simp] theorem State.pushPO_draws (s : State) (pt : Point) :
    (s.pushPO pt).draws = s.draws := rfl

@[simp] theorem raiseBufferExhausted_st (s : State) :
    (raiseBufferExhausted s).st = .idle := rfl
@[simp] theorem raiseBufferExhausted_upos (s : State) :
    (raiseBufferExhausted s).upos = .entry := rfl
@[simp] theorem raiseBufferExhausted_ax (s : State) :
    (raiseBufferExhausted s).ax = s.ax := rfl
@[simp] theorem raiseBufferExhausted_ay (s : State) :
    (raiseBufferExhausted s).ay = s.ay := rfl
@[simp] theorem raiseBufferExhausted_axis (s : State) :
    (raiseBufferExhausted s).axis = s.axis := rfl
@[simp] theorem raiseBufferExhausted_p (s : State) :
    (raiseBufferExhausted s).p = s.p := rfl
@[simp] theorem raiseBufferExhausted_tier (s : State) :
    (raiseBufferExhausted s).tier = s.tier := rfl
@[simp] theorem raiseBufferExhausted_cnt (s : State) :
    (raiseBufferExhausted s).cnt = s.cnt := rfl
@[simp] theorem raiseBufferExhausted_num (s : State) :
    (raiseBufferExhausted s).num = s.num := rfl
@[simp] theorem raiseBufferExhausted_fx (s : State) :
    (raiseBufferExhausted s).fx = s.fx := rfl
@[simp] theorem raiseBufferExhausted_fy (s : State) :
    (raiseBufferExhausted s).fy = s.fy := rfl
@[simp] theorem raiseBufferExhausted_osr (s : State) :
    (raiseBufferExhausted s).osr = s.osr := rfl
@[simp] theorem raiseBufferExhausted_ocnt (s : State) :
    (raiseBufferExhausted s).ocnt = s.ocnt := rfl
@[simp] theorem raiseBufferExhausted_res (s : State) :
    (raiseBufferExhausted s).res = s.res := rfl
@[simp] theorem raiseBufferExhausted_resv (s : State) :
    (raiseBufferExhausted s).resv = s.resv := rfl
@[simp] theorem raiseBufferExhausted_doneFlag (s : State) :
    (raiseBufferExhausted s).doneFlag = true := rfl
@[simp] theorem raiseBufferExhausted_err (s : State) :
    (raiseBufferExhausted s).err = .bufferExhausted := rfl
@[simp] theorem raiseBufferExhausted_cur (s : State) :
    (raiseBufferExhausted s).cur = s.cur := rfl
@[simp] theorem raiseBufferExhausted_cmd (s : State) :
    (raiseBufferExhausted s).cmd = s.cmd := rfl
@[simp] theorem raiseBufferExhausted_si (s : State) :
    (raiseBufferExhausted s).si = dropEnd s.si := rfl
@[simp] theorem raiseBufferExhausted_pi (s : State) :
    (raiseBufferExhausted s).pi = s.pi := rfl
@[simp] theorem raiseBufferExhausted_so (s : State) :
    (raiseBufferExhausted s).so = s.so := rfl
@[simp] theorem raiseBufferExhausted_po (s : State) :
    (raiseBufferExhausted s).po = s.po := rfl
@[simp] theorem raiseBufferExhausted_port (s : State) :
    (raiseBufferExhausted s).port = s.port := rfl
@[simp] theorem raiseBufferExhausted_rst (s : State) :
    (raiseBufferExhausted s).rst = s.rst := rfl
@[simp] theorem raiseBufferExhausted_soReady (s : State) :
    (raiseBufferExhausted s).soReady = s.soReady := rfl
@[simp] theorem raiseBufferExhausted_poReady (s : State) :
    (raiseBufferExhausted s).poReady = s.poReady := rfl
@[simp] theorem raiseBufferExhausted_draws (s : State) :
    (raiseBufferExhausted s).draws = s.draws := rfl

@[simp] theorem acceptAs_st (st' : FsmState) (c : Command) (s : State) :
    (acceptAs st' c s).st = st' := rfl
@[simp] theorem acceptAs_upos (st' : FsmState) (c : Command) (s : State) :
    (acceptAs st' c s).upos = .entry := rfl
@[simp] theorem acceptAs_ax (st' : FsmState) (c : Command) (s : State) :
    (acceptAs st' c s).ax = s.ax := rfl
@[simp] theorem acceptAs_ay (st' : FsmState) (c : Command) (s : State) :
    (acceptAs st' c s).ay = s.ay := rfl
@[simp] theorem acceptAs_axis (st' : FsmState) (c : Command) (s : State) :
    (acceptAs st' c s).axis = s.axis := rfl
@[simp] theorem acceptAs_p (st' : FsmState) (c : Command) (s : State) :
    (acceptAs st' c s).p = s.p := rfl
@[simp] theorem acceptAs_tier (st' : FsmState) (c : Command) (s : State) :
    (acceptAs st' c s).tier = s.tier := rfl
@[simp] theorem acceptAs_cnt (st' : FsmState) (c : Command) (s : State) :
    (acceptAs st' c s).cnt = s.cnt := rfl
@[simp] theorem acceptAs_num (st' : FsmState) (c : Command) (s : State) :
    (acceptAs st' c s).num = s.num := rfl
@[simp] theorem acceptAs_fx (st' : FsmState) (c : Command) (s : State) :
    (acceptAs st' c s).fx = s.fx := rfl
@[simp] theorem acceptAs_fy (st' : FsmState) (c : Command) (s : State) :
    (acceptAs st' c s).fy = s.fy := rfl
@[simp] theorem acceptAs_osr (st' : FsmState) (c : Command) (s : State) :
    (acceptAs st' c s).osr = s.osr := rfl
@[simp] theorem acceptAs_ocnt (st' : FsmState) (c : Command) (s : State) :
    (acceptAs st' c s).ocnt = s.ocnt := rfl
@[simp] theorem acceptAs_res (st' : FsmState) (c : Command) (s : State) :
    (acceptAs st' c s).res = s.res := rfl
@[simp] theorem acceptAs_resv (st' : FsmState) (c : Command) (s : State) :
    (acceptAs st' c s).resv = false := rfl
@[simp] theorem acceptAs_doneFlag (st' : FsmState) (c : Command) (s : State) :
    (acceptAs st' c s).doneFlag = false := rfl
@[simp] theorem acceptAs_err (st' : FsmState) (c : Command) (s : State) :
    (acceptAs st' c s).err = .none := rfl
@[simp] theorem acceptAs_cur (st' : FsmState) (c : Command) (s : State) :
    (acceptAs st' c s).cur = 0 := rfl
@[simp] theorem acceptAs_cmd (st' : FsmState) (c : Command) (s : State) :
    (acceptAs st' c s).cmd = c := rfl
@[simp] theorem acceptAs_si (st' : FsmState) (c : Command) (s : State) :
    (acceptAs st' c s).si = s.si := rfl
@[simp] theorem acceptAs_pi (st' : FsmState) (c : Command) (s : State) :
    (acceptAs st' c s).pi = s.pi := rfl
@[simp] theorem acceptAs_so (st' : FsmState) (c : Command) (s : State) :
    (acceptAs st' c s).so = s.so := rfl
@[simp] theorem acceptAs_po (st' : FsmState) (c : Command) (s : State) :
    (acceptAs st' c s).po = s.po := rfl
@[simp] theorem acceptAs_port (st' : FsmState) (c : Command) (s : State) :
    (acceptAs st' c s).port = none := rfl
@[simp] theorem acceptAs_rst (st' : FsmState) (c : Command) (s : State) :
    (acceptAs st' c s).rst = s.rst := rfl
@[simp] theorem acceptAs_soReady (st' : FsmState) (c : Command) (s : State) :
    (acceptAs st' c s).soReady = s.soReady := rfl
@[simp] theorem acceptAs_poReady (st' : FsmState) (c : Command) (s : State) :
    (acceptAs st' c s).poReady = s.poReady := rfl
@[simp] theorem acceptAs_draws (st' : FsmState) (c : Command) (s : State) :
    (acceptAs st' c s).draws = s.draws := rfl

@[simp] theorem clearAccumulators_st (s : State) :
    (clearAccumulators s).st = s.st := rfl
@[simp] theorem clearAccumulators_upos (s : State) :
    (clearAccumulators s).upos = s.upos := rfl
@[simp] theorem clearAccumulators_ax (s : State) :
    (clearAccumulators s).ax = 0 := rfl
@[simp] theorem clearAccumulators_ay (s : State) :
    (clearAccumulators s).ay = 0 := rfl
@[simp] theorem clearAccumulators_axis (s : State) :
    (clearAccumulators s).axis = s.axis := rfl
@[simp] theorem clearAccumulators_p (s : State) :
    (clearAccumulators s).p = s.p := rfl
@[simp] theorem clearAccumulators_tier (s : State) :
    (clearAccumulators s).tier = s.tier := rfl
@[simp] theorem clearAccumulators_cnt (s : State) :
    (clearAccumulators s).cnt = s.cnt := rfl
@[simp] theorem clearAccumulators_num (s : State) :
    (clearAccumulators s).num = s.num := rfl
@[simp] theorem clearAccumulators_fx (s : State) :
    (clearAccumulators s).fx = s.fx := rfl
@[simp] theorem clearAccumulators_fy (s : State) :
    (clearAccumulators s).fy = s.fy := rfl
@[simp] theorem clearAccumulators_osr (s : State) :
    (clearAccumulators s).osr = s.osr := rfl
@[simp] theorem clearAccumulators_ocnt (s : State) :
    (clearAccumulators s).ocnt = s.ocnt := rfl
@[simp] theorem clearAccumulators_res (s : State) :
    (clearAccumulators s).res = s.res := rfl
@[simp] theorem clearAccumulators_resv (s : State) :
    (clearAccumulators s).resv = s.resv := rfl
@[simp] theorem clearAccumulators_doneFlag (s : State) :
    (clearAccumulators s).doneFlag = s.doneFlag := rfl
@[simp] theorem clearAccumulators_err (s : State) :
    (clearAccumulators s).err = s.err := rfl
@[simp] theorem clearAccumulators_cur (s : State) :
    (clearAccumulators s).cur = s.cur := rfl
@[simp] theorem clearAccumulators_cmd (s : State) :
    (clearAccumulators s).cmd = s.cmd := rfl
@[simp] theorem clearAccumulators_si (s : State) :
    (clearAccumulators s).si = s.si := rfl
@[simp] theorem clearAccumulators_pi (s : State) :
    (clearAccumulators s).pi = s.pi := rfl
@[simp] theorem clearAccumulators_so (s : State) :
    (clearAccumulators s).so = s.so := rfl
@[simp] theorem clearAccumulators_po (s : State) :
    (clearAccumulators s).po = s.po := rfl
@[simp] theorem clearAccumulators_port (s : State) :
    (clearAccumulators s).port = s.port := rfl
@[simp] theorem clearAccumulators_rst (s : State) :
    (clearAccumulators s).rst = s.rst := rfl
@[simp] theorem clearAccumulators_soReady (s : State) :
    (clearAccumulators s).soReady = s.soReady := rfl
@[simp] theorem clearAccumulators_poReady (s : State) :
    (clearAccumulators s).poReady = s.poReady := rfl
@[simp] theorem clearAccumulators_draws (s : State) :
    (clearAccumulators s).draws = s.draws := rfl

@[simp] theorem passStart_st (s : State) :
    (passStart s).st = s.st := rfl
@[simp] theorem passStart_upos (s : State) :
    (passStart s).upos = s.upos := rfl
@[simp] theorem passStart_ax (s : State) :
    (passStart s).ax = 0 := rfl
@[simp] theorem passStart_ay (s : State) :
    (passStart s).ay = 0 := rfl
@[simp] theorem passStart_axis (s : State) :
    (passStart s).axis = .x := rfl
@[simp] theorem passStart_p (s : State) :
    (passStart s).p = 0 := rfl
@[simp] theorem passStart_tier (s : State) :
    (passStart s).tier = .small := rfl
@[simp] theorem passStart_cnt (s : State) :
    (passStart s).cnt = 0 := rfl
@[simp] theorem passStart_num (s : State) :
    (passStart s).num = 0 := rfl
@[simp] theorem passStart_fx (s : State) :
    (passStart s).fx = 0 := rfl
@[simp] theorem passStart_fy (s : State) :
    (passStart s).fy = 0 := rfl
@[simp] theorem passStart_osr (s : State) :
    (passStart s).osr = 0 := rfl
@[simp] theorem passStart_ocnt (s : State) :
    (passStart s).ocnt = 0 := rfl
@[simp] theorem passStart_res (s : State) :
    (passStart s).res = s.res := rfl
@[simp] theorem passStart_resv (s : State) :
    (passStart s).resv = s.resv := rfl
@[simp] theorem passStart_doneFlag (s : State) :
    (passStart s).doneFlag = s.doneFlag := rfl
@[simp] theorem passStart_err (s : State) :
    (passStart s).err = s.err := rfl
@[simp] theorem passStart_cur (s : State) :
    (passStart s).cur = s.cur := rfl
@[simp] theorem passStart_cmd (s : State) :
    (passStart s).cmd = s.cmd := rfl
@[simp] theorem passStart_si (s : State) :
    (passStart s).si = s.si := rfl
@[simp] theorem passStart_pi (s : State) :
    (passStart s).pi = s.pi := rfl
@[simp] theorem passStart_so (s : State) :
    (passStart s).so = s.so := rfl
@[simp] theorem passStart_po (s : State) :
    (passStart s).po = s.po := rfl
@[simp] theorem passStart_port (s : State) :
    (passStart s).port = s.port := rfl
@[simp] theorem passStart_rst (s : State) :
    (passStart s).rst = s.rst := rfl
@[simp] theorem passStart_soReady (s : State) :
    (passStart s).soReady = s.soReady := rfl
@[simp] theorem passStart_poReady (s : State) :
    (passStart s).poReady = s.poReady := rfl
@[simp] theorem passStart_draws (s : State) :
    (passStart s).draws = s.draws := rfl

@[simp] theorem shiftIn_st (i : Index) (s : State) :
    (shiftIn i s).st = s.st := rfl
@[simp] theorem shiftIn_upos (i : Index) (s : State) :
    (shiftIn i s).upos = s.upos := rfl
@[simp] theorem shiftIn_ax (i : Index) (s : State) :
    (shiftIn i s).ax = s.ax := rfl
@[simp] theorem shiftIn_ay (i : Index) (s : State) :
    (shiftIn i s).ay = s.ay := rfl
@[simp] theorem shiftIn_axis (i : Index) (s : State) :
    (shiftIn i s).axis = s.axis := rfl
@[simp] theorem shiftIn_p (i : Index) (s : State) :
    (shiftIn i s).p = s.p := rfl
@[simp] theorem shiftIn_tier (i : Index) (s : State) :
    (shiftIn i s).tier = s.tier := rfl
@[simp] theorem shiftIn_cnt (i : Index) (s : State) :
    (shiftIn i s).cnt = s.cnt - 1 := rfl
@[simp] theorem shiftIn_num (i : Index) (s : State) :
    (shiftIn i s).num = (s.num <<< 6) ||| i.setWidth 32 := rfl
@[simp] theorem shiftIn_fx (i : Index) (s : State) :
    (shiftIn i s).fx = s.fx := rfl
@[simp] theorem shiftIn_fy (i : Index) (s : State) :
    (shiftIn i s).fy = s.fy := rfl
@[simp] theorem shiftIn_osr (i : Index) (s : State) :
    (shiftIn i s).osr = s.osr := rfl
@[simp] theorem shiftIn_ocnt (i : Index) (s : State) :
    (shiftIn i s).ocnt = s.ocnt := rfl
@[simp] theorem shiftIn_res (i : Index) (s : State) :
    (shiftIn i s).res = s.res := rfl
@[simp] theorem shiftIn_resv (i : Index) (s : State) :
    (shiftIn i s).resv = s.resv := rfl
@[simp] theorem shiftIn_doneFlag (i : Index) (s : State) :
    (shiftIn i s).doneFlag = s.doneFlag := rfl
@[simp] theorem shiftIn_err (i : Index) (s : State) :
    (shiftIn i s).err = s.err := rfl
@[simp] theorem shiftIn_cur (i : Index) (s : State) :
    (shiftIn i s).cur = s.cur := rfl
@[simp] theorem shiftIn_cmd (i : Index) (s : State) :
    (shiftIn i s).cmd = s.cmd := rfl
@[simp] theorem shiftIn_si (i : Index) (s : State) :
    (shiftIn i s).si = s.si := rfl
@[simp] theorem shiftIn_pi (i : Index) (s : State) :
    (shiftIn i s).pi = s.pi := rfl
@[simp] theorem shiftIn_so (i : Index) (s : State) :
    (shiftIn i s).so = s.so := rfl
@[simp] theorem shiftIn_po (i : Index) (s : State) :
    (shiftIn i s).po = s.po := rfl
@[simp] theorem shiftIn_port (i : Index) (s : State) :
    (shiftIn i s).port = s.port := rfl
@[simp] theorem shiftIn_rst (i : Index) (s : State) :
    (shiftIn i s).rst = s.rst := rfl
@[simp] theorem shiftIn_soReady (i : Index) (s : State) :
    (shiftIn i s).soReady = s.soReady := rfl
@[simp] theorem shiftIn_poReady (i : Index) (s : State) :
    (shiftIn i s).poReady = s.poReady := rfl
@[simp] theorem shiftIn_draws (i : Index) (s : State) :
    (shiftIn i s).draws = s.draws := rfl

@[simp] theorem latchProbe_st (i : Index) (s : State) :
    (latchProbe i s).st = s.st := rfl
@[simp] theorem latchProbe_upos (i : Index) (s : State) :
    (latchProbe i s).upos = s.upos := rfl
@[simp] theorem latchProbe_ax (i : Index) (s : State) :
    (latchProbe i s).ax = s.ax := rfl
@[simp] theorem latchProbe_ay (i : Index) (s : State) :
    (latchProbe i s).ay = s.ay := rfl
@[simp] theorem latchProbe_axis (i : Index) (s : State) :
    (latchProbe i s).axis = s.axis := rfl
@[simp] theorem latchProbe_p (i : Index) (s : State) :
    (latchProbe i s).p = i := rfl
@[simp] theorem latchProbe_tier (i : Index) (s : State) :
    (latchProbe i s).tier = tierOf i := rfl
@[simp] theorem latchProbe_cnt (i : Index) (s : State) :
    (latchProbe i s).cnt = BitVec.ofNat 3 (tierOf i).extra := rfl
@[simp] theorem latchProbe_num (i : Index) (s : State) :
    (latchProbe i s).num = 0 := rfl
@[simp] theorem latchProbe_fx (i : Index) (s : State) :
    (latchProbe i s).fx = s.fx := rfl
@[simp] theorem latchProbe_fy (i : Index) (s : State) :
    (latchProbe i s).fy = s.fy := rfl
@[simp] theorem latchProbe_osr (i : Index) (s : State) :
    (latchProbe i s).osr = s.osr := rfl
@[simp] theorem latchProbe_ocnt (i : Index) (s : State) :
    (latchProbe i s).ocnt = s.ocnt := rfl
@[simp] theorem latchProbe_res (i : Index) (s : State) :
    (latchProbe i s).res = s.res := rfl
@[simp] theorem latchProbe_resv (i : Index) (s : State) :
    (latchProbe i s).resv = s.resv := rfl
@[simp] theorem latchProbe_doneFlag (i : Index) (s : State) :
    (latchProbe i s).doneFlag = s.doneFlag := rfl
@[simp] theorem latchProbe_err (i : Index) (s : State) :
    (latchProbe i s).err = s.err := rfl
@[simp] theorem latchProbe_cur (i : Index) (s : State) :
    (latchProbe i s).cur = s.cur := rfl
@[simp] theorem latchProbe_cmd (i : Index) (s : State) :
    (latchProbe i s).cmd = s.cmd := rfl
@[simp] theorem latchProbe_si (i : Index) (s : State) :
    (latchProbe i s).si = s.si := rfl
@[simp] theorem latchProbe_pi (i : Index) (s : State) :
    (latchProbe i s).pi = s.pi := rfl
@[simp] theorem latchProbe_so (i : Index) (s : State) :
    (latchProbe i s).so = s.so := rfl
@[simp] theorem latchProbe_po (i : Index) (s : State) :
    (latchProbe i s).po = s.po := rfl
@[simp] theorem latchProbe_port (i : Index) (s : State) :
    (latchProbe i s).port = s.port := rfl
@[simp] theorem latchProbe_rst (i : Index) (s : State) :
    (latchProbe i s).rst = s.rst := rfl
@[simp] theorem latchProbe_soReady (i : Index) (s : State) :
    (latchProbe i s).soReady = s.soReady := rfl
@[simp] theorem latchProbe_poReady (i : Index) (s : State) :
    (latchProbe i s).poReady = s.poReady := rfl
@[simp] theorem latchProbe_draws (i : Index) (s : State) :
    (latchProbe i s).draws = s.draws := rfl

@[simp] theorem loadEncoder_st (d a : Word32) (s : State) :
    (loadEncoder d a s).st = s.st := rfl
@[simp] theorem loadEncoder_upos (d a : Word32) (s : State) :
    (loadEncoder d a s).upos = s.upos := rfl
@[simp] theorem loadEncoder_ax (d a : Word32) (s : State) :
    (loadEncoder d a s).ax = s.ax := rfl
@[simp] theorem loadEncoder_ay (d a : Word32) (s : State) :
    (loadEncoder d a s).ay = s.ay := rfl
@[simp] theorem loadEncoder_axis (d a : Word32) (s : State) :
    (loadEncoder d a s).axis = s.axis := rfl
@[simp] theorem loadEncoder_p (d a : Word32) (s : State) :
    (loadEncoder d a s).p = s.p := rfl
@[simp] theorem loadEncoder_tier (d a : Word32) (s : State) :
    (loadEncoder d a s).tier = s.tier := rfl
@[simp] theorem loadEncoder_cnt (d a : Word32) (s : State) :
    (loadEncoder d a s).cnt = s.cnt := rfl
@[simp] theorem loadEncoder_num (d a : Word32) (s : State) :
    (loadEncoder d a s).num = s.num := rfl
@[simp] theorem loadEncoder_fx (d a : Word32) (s : State) :
    (loadEncoder d a s).fx = s.fx := rfl
@[simp] theorem loadEncoder_fy (d a : Word32) (s : State) :
    (loadEncoder d a s).fy = s.fy := rfl
@[simp] theorem loadEncoder_osr (d a : Word32) (s : State) :
    (loadEncoder d a s).osr = encoderWord d a := rfl
@[simp] theorem loadEncoder_ocnt (d a : Word32) (s : State) :
    (loadEncoder d a s).ocnt = encoderCount d := rfl
@[simp] theorem loadEncoder_res (d a : Word32) (s : State) :
    (loadEncoder d a s).res = s.res := rfl
@[simp] theorem loadEncoder_resv (d a : Word32) (s : State) :
    (loadEncoder d a s).resv = s.resv := rfl
@[simp] theorem loadEncoder_doneFlag (d a : Word32) (s : State) :
    (loadEncoder d a s).doneFlag = s.doneFlag := rfl
@[simp] theorem loadEncoder_err (d a : Word32) (s : State) :
    (loadEncoder d a s).err = s.err := rfl
@[simp] theorem loadEncoder_cur (d a : Word32) (s : State) :
    (loadEncoder d a s).cur = s.cur := rfl
@[simp] theorem loadEncoder_cmd (d a : Word32) (s : State) :
    (loadEncoder d a s).cmd = s.cmd := rfl
@[simp] theorem loadEncoder_si (d a : Word32) (s : State) :
    (loadEncoder d a s).si = s.si := rfl
@[simp] theorem loadEncoder_pi (d a : Word32) (s : State) :
    (loadEncoder d a s).pi = s.pi := rfl
@[simp] theorem loadEncoder_so (d a : Word32) (s : State) :
    (loadEncoder d a s).so = s.so := rfl
@[simp] theorem loadEncoder_po (d a : Word32) (s : State) :
    (loadEncoder d a s).po = s.po := rfl
@[simp] theorem loadEncoder_port (d a : Word32) (s : State) :
    (loadEncoder d a s).port = s.port := rfl
@[simp] theorem loadEncoder_rst (d a : Word32) (s : State) :
    (loadEncoder d a s).rst = s.rst := rfl
@[simp] theorem loadEncoder_soReady (d a : Word32) (s : State) :
    (loadEncoder d a s).soReady = s.soReady := rfl
@[simp] theorem loadEncoder_poReady (d a : Word32) (s : State) :
    (loadEncoder d a s).poReady = s.poReady := rfl
@[simp] theorem loadEncoder_draws (d a : Word32) (s : State) :
    (loadEncoder d a s).draws = s.draws := rfl

@[simp] theorem shiftOut_st (tab : Config.Table) (s : State) :
    (shiftOut tab s).st = s.st := rfl
@[simp] theorem shiftOut_upos (tab : Config.Table) (s : State) :
    (shiftOut tab s).upos = s.upos := rfl
@[simp] theorem shiftOut_ax (tab : Config.Table) (s : State) :
    (shiftOut tab s).ax = s.ax := rfl
@[simp] theorem shiftOut_ay (tab : Config.Table) (s : State) :
    (shiftOut tab s).ay = s.ay := rfl
@[simp] theorem shiftOut_axis (tab : Config.Table) (s : State) :
    (shiftOut tab s).axis = s.axis := rfl
@[simp] theorem shiftOut_p (tab : Config.Table) (s : State) :
    (shiftOut tab s).p = s.p := rfl
@[simp] theorem shiftOut_tier (tab : Config.Table) (s : State) :
    (shiftOut tab s).tier = s.tier := rfl
@[simp] theorem shiftOut_cnt (tab : Config.Table) (s : State) :
    (shiftOut tab s).cnt = s.cnt := rfl
@[simp] theorem shiftOut_num (tab : Config.Table) (s : State) :
    (shiftOut tab s).num = s.num := rfl
@[simp] theorem shiftOut_fx (tab : Config.Table) (s : State) :
    (shiftOut tab s).fx = s.fx := rfl
@[simp] theorem shiftOut_fy (tab : Config.Table) (s : State) :
    (shiftOut tab s).fy = s.fy := rfl
@[simp] theorem shiftOut_osr (tab : Config.Table) (s : State) :
    (shiftOut tab s).osr = s.osr <<< 6 := rfl
@[simp] theorem shiftOut_ocnt (tab : Config.Table) (s : State) :
    (shiftOut tab s).ocnt = s.ocnt - 1 := rfl
@[simp] theorem shiftOut_res (tab : Config.Table) (s : State) :
    (shiftOut tab s).res = s.res := rfl
@[simp] theorem shiftOut_resv (tab : Config.Table) (s : State) :
    (shiftOut tab s).resv = s.resv := rfl
@[simp] theorem shiftOut_doneFlag (tab : Config.Table) (s : State) :
    (shiftOut tab s).doneFlag = s.doneFlag := rfl
@[simp] theorem shiftOut_err (tab : Config.Table) (s : State) :
    (shiftOut tab s).err = s.err := rfl
@[simp] theorem shiftOut_cur (tab : Config.Table) (s : State) :
    (shiftOut tab s).cur = s.cur := rfl
@[simp] theorem shiftOut_cmd (tab : Config.Table) (s : State) :
    (shiftOut tab s).cmd = s.cmd := rfl
@[simp] theorem shiftOut_si (tab : Config.Table) (s : State) :
    (shiftOut tab s).si = s.si := rfl
@[simp] theorem shiftOut_pi (tab : Config.Table) (s : State) :
    (shiftOut tab s).pi = s.pi := rfl
@[simp] theorem shiftOut_so (tab : Config.Table) (s : State) :
    (shiftOut tab s).so = s.so ++ [romOf tab (nextIndex s.osr)] := rfl
@[simp] theorem shiftOut_po (tab : Config.Table) (s : State) :
    (shiftOut tab s).po = s.po := rfl
@[simp] theorem shiftOut_port (tab : Config.Table) (s : State) :
    (shiftOut tab s).port = s.port := rfl
@[simp] theorem shiftOut_rst (tab : Config.Table) (s : State) :
    (shiftOut tab s).rst = s.rst := rfl
@[simp] theorem shiftOut_soReady (tab : Config.Table) (s : State) :
    (shiftOut tab s).soReady = s.soReady := rfl
@[simp] theorem shiftOut_poReady (tab : Config.Table) (s : State) :
    (shiftOut tab s).poReady = s.poReady := rfl
@[simp] theorem shiftOut_draws (tab : Config.Table) (s : State) :
    (shiftOut tab s).draws = s.draws := rfl

@[simp] theorem State.setAcc_st (s : State) (a : Axis) (v : Word32) :
    (s.setAcc a v).st = s.st := by cases a <;> rfl
@[simp] theorem State.setAcc_upos (s : State) (a : Axis) (v : Word32) :
    (s.setAcc a v).upos = s.upos := by cases a <;> rfl
@[simp] theorem State.setAcc_axis (s : State) (a : Axis) (v : Word32) :
    (s.setAcc a v).axis = s.axis := by cases a <;> rfl
@[simp] theorem State.setAcc_p (s : State) (a : Axis) (v : Word32) :
    (s.setAcc a v).p = s.p := by cases a <;> rfl
@[simp] theorem State.setAcc_tier (s : State) (a : Axis) (v : Word32) :
    (s.setAcc a v).tier = s.tier := by cases a <;> rfl
@[simp] theorem State.setAcc_cnt (s : State) (a : Axis) (v : Word32) :
    (s.setAcc a v).cnt = s.cnt := by cases a <;> rfl
@[simp] theorem State.setAcc_num (s : State) (a : Axis) (v : Word32) :
    (s.setAcc a v).num = s.num := by cases a <;> rfl
@[simp] theorem State.setAcc_fx (s : State) (a : Axis) (v : Word32) :
    (s.setAcc a v).fx = s.fx := by cases a <;> rfl
@[simp] theorem State.setAcc_fy (s : State) (a : Axis) (v : Word32) :
    (s.setAcc a v).fy = s.fy := by cases a <;> rfl
@[simp] theorem State.setAcc_osr (s : State) (a : Axis) (v : Word32) :
    (s.setAcc a v).osr = s.osr := by cases a <;> rfl
@[simp] theorem State.setAcc_ocnt (s : State) (a : Axis) (v : Word32) :
    (s.setAcc a v).ocnt = s.ocnt := by cases a <;> rfl
@[simp] theorem State.setAcc_res (s : State) (a : Axis) (v : Word32) :
    (s.setAcc a v).res = s.res := by cases a <;> rfl
@[simp] theorem State.setAcc_resv (s : State) (a : Axis) (v : Word32) :
    (s.setAcc a v).resv = s.resv := by cases a <;> rfl
@[simp] theorem State.setAcc_doneFlag (s : State) (a : Axis) (v : Word32) :
    (s.setAcc a v).doneFlag = s.doneFlag := by cases a <;> rfl
@[simp] theorem State.setAcc_err (s : State) (a : Axis) (v : Word32) :
    (s.setAcc a v).err = s.err := by cases a <;> rfl
@[simp] theorem State.setAcc_cur (s : State) (a : Axis) (v : Word32) :
    (s.setAcc a v).cur = s.cur := by cases a <;> rfl
@[simp] theorem State.setAcc_cmd (s : State) (a : Axis) (v : Word32) :
    (s.setAcc a v).cmd = s.cmd := by cases a <;> rfl
@[simp] theorem State.setAcc_si (s : State) (a : Axis) (v : Word32) :
    (s.setAcc a v).si = s.si := by cases a <;> rfl
@[simp] theorem State.setAcc_pi (s : State) (a : Axis) (v : Word32) :
    (s.setAcc a v).pi = s.pi := by cases a <;> rfl
@[simp] theorem State.setAcc_so (s : State) (a : Axis) (v : Word32) :
    (s.setAcc a v).so = s.so := by cases a <;> rfl
@[simp] theorem State.setAcc_po (s : State) (a : Axis) (v : Word32) :
    (s.setAcc a v).po = s.po := by cases a <;> rfl
@[simp] theorem State.setAcc_port (s : State) (a : Axis) (v : Word32) :
    (s.setAcc a v).port = s.port := by cases a <;> rfl
@[simp] theorem State.setAcc_rst (s : State) (a : Axis) (v : Word32) :
    (s.setAcc a v).rst = s.rst := by cases a <;> rfl
@[simp] theorem State.setAcc_soReady (s : State) (a : Axis) (v : Word32) :
    (s.setAcc a v).soReady = s.soReady := by cases a <;> rfl
@[simp] theorem State.setAcc_poReady (s : State) (a : Axis) (v : Word32) :
    (s.setAcc a v).poReady = s.poReady := by cases a <;> rfl
@[simp] theorem State.setAcc_draws (s : State) (a : Axis) (v : Word32) :
    (s.setAcc a v).draws = s.draws := by cases a <;> rfl

@[simp] theorem State.setAcc_x_ax (s : State) (v : Word32) : (s.setAcc .x v).ax = v := rfl
@[simp] theorem State.setAcc_x_ay (s : State) (v : Word32) : (s.setAcc .x v).ay = s.ay := rfl
@[simp] theorem State.setAcc_y_ax (s : State) (v : Word32) : (s.setAcc .y v).ax = s.ax := rfl
@[simp] theorem State.setAcc_y_ay (s : State) (v : Word32) : (s.setAcc .y v).ay = v := rfl
@[simp] theorem State.acc_x (s : State) : s.acc .x = s.ax := rfl
@[simp] theorem State.acc_y (s : State) : s.acc .y = s.ay := rfl
@[simp] theorem State.acc_setAcc (s : State) (a : Axis) (v : Word32) : (s.setAcc a v).acc a = v := by cases a <;> rfl

@[simp] theorem afterApply_upos (s : State) : (afterApply s).upos = s.upos := by
  unfold afterApply; split <;> rfl
@[simp] theorem afterApply_ax (s : State) : (afterApply s).ax = s.ax := by
  unfold afterApply; split <;> rfl
@[simp] theorem afterApply_ay (s : State) : (afterApply s).ay = s.ay := by
  unfold afterApply; split <;> rfl
@[simp] theorem afterApply_p (s : State) : (afterApply s).p = s.p := by
  unfold afterApply; split <;> rfl
@[simp] theorem afterApply_tier (s : State) : (afterApply s).tier = s.tier := by
  unfold afterApply; split <;> rfl
@[simp] theorem afterApply_cnt (s : State) : (afterApply s).cnt = s.cnt := by
  unfold afterApply; split <;> rfl
@[simp] theorem afterApply_num (s : State) : (afterApply s).num = s.num := by
  unfold afterApply; split <;> rfl
@[simp] theorem afterApply_fx (s : State) : (afterApply s).fx = s.fx := by
  unfold afterApply; split <;> rfl
@[simp] theorem afterApply_fy (s : State) : (afterApply s).fy = s.fy := by
  unfold afterApply; split <;> rfl
@[simp] theorem afterApply_osr (s : State) : (afterApply s).osr = s.osr := by
  unfold afterApply; split <;> rfl
@[simp] theorem afterApply_ocnt (s : State) : (afterApply s).ocnt = s.ocnt := by
  unfold afterApply; split <;> rfl
@[simp] theorem afterApply_res (s : State) : (afterApply s).res = s.res := by
  unfold afterApply; split <;> rfl
@[simp] theorem afterApply_resv (s : State) : (afterApply s).resv = s.resv := by
  unfold afterApply; split <;> rfl
@[simp] theorem afterApply_doneFlag (s : State) : (afterApply s).doneFlag = s.doneFlag := by
  unfold afterApply; split <;> rfl
@[simp] theorem afterApply_err (s : State) : (afterApply s).err = s.err := by
  unfold afterApply; split <;> rfl
@[simp] theorem afterApply_cur (s : State) : (afterApply s).cur = s.cur := by
  unfold afterApply; split <;> rfl
@[simp] theorem afterApply_cmd (s : State) : (afterApply s).cmd = s.cmd := by
  unfold afterApply; split <;> rfl
@[simp] theorem afterApply_si (s : State) : (afterApply s).si = s.si := by
  unfold afterApply; split <;> rfl
@[simp] theorem afterApply_pi (s : State) : (afterApply s).pi = s.pi := by
  unfold afterApply; split <;> rfl
@[simp] theorem afterApply_so (s : State) : (afterApply s).so = s.so := by
  unfold afterApply; split <;> rfl
@[simp] theorem afterApply_po (s : State) : (afterApply s).po = s.po := by
  unfold afterApply; split <;> rfl
@[simp] theorem afterApply_port (s : State) : (afterApply s).port = s.port := by
  unfold afterApply; split <;> rfl
@[simp] theorem afterApply_rst (s : State) : (afterApply s).rst = s.rst := by
  unfold afterApply; split <;> rfl
@[simp] theorem afterApply_soReady (s : State) : (afterApply s).soReady = s.soReady := by
  unfold afterApply; split <;> rfl
@[simp] theorem afterApply_poReady (s : State) : (afterApply s).poReady = s.poReady := by
  unfold afterApply; split <;> rfl
@[simp] theorem afterApply_draws (s : State) : (afterApply s).draws = s.draws := by
  unfold afterApply; split <;> rfl
@[simp] theorem fixedOr_st (r : Option Word32) (s : State) : (fixedOr r s).2.st = s.st := by
  cases r <;> rfl
@[simp] theorem fixedOr_upos (r : Option Word32) (s : State) : (fixedOr r s).2.upos = s.upos := by
  cases r <;> rfl
@[simp] theorem fixedOr_ax (r : Option Word32) (s : State) : (fixedOr r s).2.ax = s.ax := by
  cases r <;> rfl
@[simp] theorem fixedOr_ay (r : Option Word32) (s : State) : (fixedOr r s).2.ay = s.ay := by
  cases r <;> rfl
@[simp] theorem fixedOr_axis (r : Option Word32) (s : State) : (fixedOr r s).2.axis = s.axis := by
  cases r <;> rfl
@[simp] theorem fixedOr_p (r : Option Word32) (s : State) : (fixedOr r s).2.p = s.p := by
  cases r <;> rfl
@[simp] theorem fixedOr_tier (r : Option Word32) (s : State) : (fixedOr r s).2.tier = s.tier := by
  cases r <;> rfl
@[simp] theorem fixedOr_cnt (r : Option Word32) (s : State) : (fixedOr r s).2.cnt = s.cnt := by
  cases r <;> rfl
@[simp] theorem fixedOr_num (r : Option Word32) (s : State) : (fixedOr r s).2.num = s.num := by
  cases r <;> rfl
@[simp] theorem fixedOr_fx (r : Option Word32) (s : State) : (fixedOr r s).2.fx = s.fx := by
  cases r <;> rfl
@[simp] theorem fixedOr_fy (r : Option Word32) (s : State) : (fixedOr r s).2.fy = s.fy := by
  cases r <;> rfl
@[simp] theorem fixedOr_osr (r : Option Word32) (s : State) : (fixedOr r s).2.osr = s.osr := by
  cases r <;> rfl
@[simp] theorem fixedOr_ocnt (r : Option Word32) (s : State) : (fixedOr r s).2.ocnt = s.ocnt := by
  cases r <;> rfl
@[simp] theorem fixedOr_res (r : Option Word32) (s : State) : (fixedOr r s).2.res = s.res := by
  cases r <;> rfl
@[simp] theorem fixedOr_resv (r : Option Word32) (s : State) : (fixedOr r s).2.resv = s.resv := by
  cases r <;> rfl
@[simp] theorem fixedOr_doneFlag (r : Option Word32) (s : State) : (fixedOr r s).2.doneFlag = s.doneFlag := by
  cases r <;> rfl
@[simp] theorem fixedOr_err (r : Option Word32) (s : State) : (fixedOr r s).2.err = s.err := by
  cases r <;> rfl
@[simp] theorem fixedOr_cur (r : Option Word32) (s : State) : (fixedOr r s).2.cur = s.cur := by
  cases r <;> rfl
@[simp] theorem fixedOr_cmd (r : Option Word32) (s : State) : (fixedOr r s).2.cmd = s.cmd := by
  cases r <;> rfl
@[simp] theorem fixedOr_si (r : Option Word32) (s : State) : (fixedOr r s).2.si = s.si := by
  cases r <;> rfl
@[simp] theorem fixedOr_pi (r : Option Word32) (s : State) : (fixedOr r s).2.pi = s.pi := by
  cases r <;> rfl
@[simp] theorem fixedOr_so (r : Option Word32) (s : State) : (fixedOr r s).2.so = s.so := by
  cases r <;> rfl
@[simp] theorem fixedOr_po (r : Option Word32) (s : State) : (fixedOr r s).2.po = s.po := by
  cases r <;> rfl
@[simp] theorem fixedOr_port (r : Option Word32) (s : State) : (fixedOr r s).2.port = s.port := by
  cases r <;> rfl
@[simp] theorem fixedOr_rst (r : Option Word32) (s : State) : (fixedOr r s).2.rst = s.rst := by
  cases r <;> rfl
@[simp] theorem fixedOr_soReady (r : Option Word32) (s : State) : (fixedOr r s).2.soReady = s.soReady := by
  cases r <;> rfl
@[simp] theorem fixedOr_poReady (r : Option Word32) (s : State) : (fixedOr r s).2.poReady = s.poReady := by
  cases r <;> rfl

@[simp] theorem resetRegisters_st (s : State) : (resetRegisters s).st = .idle := rfl
@[simp] theorem resetRegisters_upos (s : State) : (resetRegisters s).upos = .entry := rfl
@[simp] theorem resetRegisters_ax (s : State) : (resetRegisters s).ax = 0 := rfl
@[simp] theorem resetRegisters_ay (s : State) : (resetRegisters s).ay = 0 := rfl
@[simp] theorem resetRegisters_axis (s : State) : (resetRegisters s).axis = .x := rfl
@[simp] theorem resetRegisters_p (s : State) : (resetRegisters s).p = 0 := rfl
@[simp] theorem resetRegisters_tier (s : State) : (resetRegisters s).tier = .small := rfl
@[simp] theorem resetRegisters_cnt (s : State) : (resetRegisters s).cnt = 0 := rfl
@[simp] theorem resetRegisters_num (s : State) : (resetRegisters s).num = 0 := rfl
@[simp] theorem resetRegisters_fx (s : State) : (resetRegisters s).fx = 0 := rfl
@[simp] theorem resetRegisters_fy (s : State) : (resetRegisters s).fy = 0 := rfl
@[simp] theorem resetRegisters_osr (s : State) : (resetRegisters s).osr = 0 := rfl
@[simp] theorem resetRegisters_ocnt (s : State) : (resetRegisters s).ocnt = 0 := rfl
@[simp] theorem resetRegisters_res (s : State) : (resetRegisters s).res = 0 := rfl
@[simp] theorem resetRegisters_resv (s : State) : (resetRegisters s).resv = false := rfl
@[simp] theorem resetRegisters_doneFlag (s : State) : (resetRegisters s).doneFlag = false := rfl
@[simp] theorem resetRegisters_err (s : State) : (resetRegisters s).err = .none := rfl
@[simp] theorem resetRegisters_cur (s : State) : (resetRegisters s).cur = 0 := rfl
@[simp] theorem resetRegisters_cmd (s : State) : (resetRegisters s).cmd = ⟨0, 0, 0⟩ := rfl
@[simp] theorem resetRegisters_si (s : State) : (resetRegisters s).si = s.si := rfl
@[simp] theorem resetRegisters_pi (s : State) : (resetRegisters s).pi = s.pi := rfl
@[simp] theorem resetRegisters_so (s : State) : (resetRegisters s).so = s.so := rfl
@[simp] theorem resetRegisters_po (s : State) : (resetRegisters s).po = s.po := rfl
@[simp] theorem resetRegisters_port (s : State) : (resetRegisters s).port = s.port := rfl
@[simp] theorem resetRegisters_rst (s : State) : (resetRegisters s).rst = s.rst := rfl
@[simp] theorem resetRegisters_soReady (s : State) : (resetRegisters s).soReady = s.soReady := rfl
@[simp] theorem resetRegisters_poReady (s : State) : (resetRegisters s).poReady = s.poReady := rfl
@[simp] theorem resetRegisters_draws (s : State) : (resetRegisters s).draws = s.draws := rfl

end Machine
end Sys2Proof
end

