-- ==== Sys2Proof/Laws/Ops.lean ====
section
/-! SUPPORT. For each shared operation, once, everything it can do: if it answers a next state, then one of these cases
holds. Later proofs cite these and do not unfold the operations. -/

namespace Sys2Proof
namespace Machine

theorem unitCommand_unit {run : State → Result} {s : State} (h : s.st = .unit) : unitCommand run s = run s := by
  simp [unitCommand, h]

theorem unitCommand_idle {run : State → Result} {s : State} {c : Command} (h : s.st = .idle) (hp : s.port = some c) :
    unitCommand run s = .next (acceptAs .unit c s) := by
  simp [unitCommand, h, hp]

theorem unitCommand_idle_none {run : State → Result} {s : State} (h : s.st = .idle) (hp : s.port = none) :
    unitCommand run s = .next s := by
  simp [unitCommand, h, hp]

theorem unitCommand_busy {run : State → Result} {s : State} (hi : s.st ≠ .idle) (hu : s.st ≠ .unit) :
    unitCommand run s = .next s := by
  unfold unitCommand; split <;> simp_all

/-- A unit command is accepted, run, or not looked at. -/
theorem unitCommand_cases {run : State → Result} {s t : State} (h : unitCommand run s = .next t) :
    (s.st = .idle ∧ ∃ c, s.port = some c ∧ t = acceptAs .unit c s) ∨ (s.st = .unit ∧ run s = .next t) ∨ t = s := by
  unfold unitCommand at h
  split at h
  · split at h <;> simp_all
  all_goals simp_all

/-- A pass is accepted from the port, or there is nothing to accept. -/
theorem acceptPass_cases {st' : FsmState} {s t : State} (h : acceptPass st' s = .next t) :
    (∃ c, s.port = some c ∧ t = passStart (acceptAs st' c s)) ∨ (s.port = none ∧ t = s) := by
  unfold acceptPass at h
  split at h <;> simp_all

theorem consumeSymbol_dProbe {i : Index} {s : State} {c : Char8} {rest : List (Item Char8)}
    (hs : s.si = .data c :: rest) (h : s.st = .dProbe) :
    consumeSymbol i s = .next { latchProbe i (s.popSI rest) with st := .dExtra } := by
  simp [consumeSymbol, hs, h]

theorem consumeSymbol_dExtra {i : Index} {s : State} {c : Char8} {rest : List (Item Char8)}
    (hs : s.si = .data c :: rest) (h : s.st = .dExtra) :
    consumeSymbol i s = .next (afterShift (fun t => { t with st := .dApply }) (shiftIn i (s.popSI rest))) := by
  simp [consumeSymbol, hs, h]

theorem consumeSymbol_read {i : Index} {s : State} {c : Char8} {rest : List (Item Char8)}
    (hs : s.si = .data c :: rest) (h : s.st = .unit) (hu : s.upos = .read) :
    consumeSymbol i s = .next (afterShift finishRdnum (shiftIn i (s.popSI rest))) := by
  simp [consumeSymbol, hs, h, hu]

theorem consumeSymbol_probe {i : Index} {s : State} {c : Char8} {rest : List (Item Char8)}
    (hs : s.si = .data c :: rest) (h : s.st = .unit) (hu : s.upos = .probe) :
    consumeSymbol i s = .next { latchProbe i (s.popSI rest) with upos := .extra } := by
  simp [consumeSymbol, hs, h, hu]

theorem consumeSymbol_extra {i : Index} {s : State} {c : Char8} {rest : List (Item Char8)}
    (hs : s.si = .data c :: rest) (h : s.st = .unit) (hu : s.upos = .extra) :
    consumeSymbol i s = .next (afterShift finishDecnum (shiftIn i (s.popSI rest))) := by
  simp [consumeSymbol, hs, h, hu]

theorem afterShift_last {fin : State → State} {t : State} (h : t.cnt = 0#3) : afterShift fin t = fin t := by
  rw [afterShift, if_pos h]

theorem afterShift_more {fin : State → State} {t : State} (h : t.cnt ≠ 0#3) : afterShift fin t = t := by
  rw [afterShift, if_neg h]

/-- A read goes on or is over. -/
theorem afterShift_cases (fin : State → State) (t : State) :
    (t.cnt = 0#3 ∧ afterShift fin t = fin t) ∨ (t.cnt ≠ 0#3 ∧ afterShift fin t = t) := by
  by_cases h : t.cnt = 0#3
  · exact .inl ⟨h, afterShift_last h⟩
  · exact .inr ⟨h, afterShift_more h⟩

/-- A symbol is latched as the probe, shifted in, or left where it is. -/
theorem consumeSymbol_cases {i : Index} {s t : State} (h : consumeSymbol i s = .next t) :
    (∃ c rest, s.si = .data c :: rest ∧
      ((s.st = .dProbe ∧ t = { latchProbe i (s.popSI rest) with st := .dExtra }) ∨
       (s.st = .dExtra ∧ t = afterShift (fun u => { u with st := .dApply }) (shiftIn i (s.popSI rest))) ∨
       (s.st = .unit ∧ s.upos = .read ∧ t = afterShift finishRdnum (shiftIn i (s.popSI rest))) ∨
       (s.st = .unit ∧ s.upos = .probe ∧ t = { latchProbe i (s.popSI rest) with upos := .extra }) ∨
       (s.st = .unit ∧ s.upos = .extra ∧ t = afterShift finishDecnum (shiftIn i (s.popSI rest))))) ∨ t = s := by
  unfold consumeSymbol at h
  split at h
  · split at h <;> simp_all
  all_goals simp_all

/-- A filler is popped and nothing else happens, or nothing happens. -/
theorem consumeFiller_cases {s t : State} (h : consumeFiller s = .next t) :
    (∃ c rest, s.si = .data c :: rest ∧ t = s.popSI rest ∧
      (s.st = .dProbe ∨ s.st = .dExtra ∨ (s.st = .unit ∧ s.upos ≠ .entry ∧ s.upos ≠ .shift))) ∨ t = s := by
  unfold consumeFiller at h
  split at h
  · split at h <;> simp_all
  all_goals simp_all

theorem readStep_nil {tab : Config.Table} {s : State} (h : s.si = []) : readStep tab s = .next s := by
  simp [readStep, h]

theorem readStep_end {tab : Config.Table} {s : State} {rest : List (Item Char8)} (h : s.si = .endTok :: rest) :
    readStep tab s = .next (raiseBufferExhausted s) := by
  simp [readStep, h]

theorem readStep_symbol {tab : Config.Table} {s : State} {c : Char8} {rest : List (Item Char8)} {i : Index}
    (h : s.si = .data c :: rest) (hr : revOf tab c = some i) : readStep tab s = consumeSymbol i s := by
  simp [readStep, h, hr]

theorem readStep_filler {tab : Config.Table} {s : State} {c : Char8} {rest : List (Item Char8)}
    (h : s.si = .data c :: rest) (hr : revOf tab c = none) : readStep tab s = consumeFiller s := by
  simp [readStep, h, hr]

/-- One turn of a reader: wait, raise, consume a symbol, or pop a filler. -/
theorem readStep_cases {tab : Config.Table} {s t : State} (h : readStep tab s = .next t) :
    (s.si = [] ∧ t = s) ∨ (∃ rest, s.si = .endTok :: rest ∧ t = raiseBufferExhausted s) ∨
      (∃ c rest i, s.si = .data c :: rest ∧ revOf tab c = some i ∧ consumeSymbol i s = .next t) ∨
      (∃ c rest, s.si = .data c :: rest ∧ revOf tab c = none ∧ consumeFiller s = .next t) := by
  unfold readStep at h
  split at h
  · simp_all
  · simp_all
  · split at h <;> simp_all

/-- The reserved counts are refused where the FSM looks at the command; every other RDNUM is a unit command. -/
theorem execRdnumOf_allowed {tab : Config.Table} {n : BitVec 3} {s : State} (h : n ≤ 5#3) :
    execRdnumOf tab n s = unitCommand (runRdnum tab n) s := by
  unfold execRdnumOf
  rw [if_neg]
  rintro ⟨h', -⟩
  exact absurd h' (by bv_omega)

theorem afterPush_last {fin : State → State} {t : State} (h : t.ocnt = 0#3) : afterPush fin t = fin t := by
  rw [afterPush, if_pos h]

theorem afterPush_more {fin : State → State} {t : State} (h : t.ocnt ≠ 0#3) : afterPush fin t = t := by
  rw [afterPush, if_neg h]

/-- An emission goes on or is over. -/
theorem afterPush_cases (fin : State → State) (t : State) :
    (t.ocnt = 0#3 ∧ afterPush fin t = fin t) ∨ (t.ocnt ≠ 0#3 ∧ afterPush fin t = t) := by
  by_cases h : t.ocnt = 0#3
  · exact .inl ⟨h, afterPush_last h⟩
  · exact .inr ⟨h, afterPush_more h⟩

/-- One turn of WRNUM's loop: wait for the sink, or push a symbol. -/
theorem pushLoop_cases {tab : Config.Table} {n : BitVec 3} {s t : State} (h : pushLoop tab n s = .next t) :
    (s.soReady = false ∧ t = s) ∨
      (s.soReady = true ∧
        t = afterPush (fun u => (u.setResult (n.setWidth 64)).endCommand) (shiftOut tab s)) := by
  unfold pushLoop at h
  split at h <;> simp_all

/-- One turn of ENCODE's loop: wait for the sink, or push a symbol. -/
theorem encodeShift_cases {tab : Config.Table} {after : FsmState} {s t : State} (h : encodeShift tab after s = .next t) :
    (s.soReady = false ∧ t = s) ∨
      (s.soReady = true ∧ t = afterPush (fun u => { u with st := after }) (shiftOut tab s)) := by
  unfold encodeShift at h
  split at h <;> simp_all

/-- `D_NEXT`: wait, end the pass, or begin a number. -/
theorem decodeNext_cases {s t : State} (h : decodeNext s = .next t) :
    (s.si = [] ∧ t = s) ∨ (∃ rest, s.si = .endTok :: rest ∧ t = ({ s with si := rest } : State).endCommand) ∨
      (∃ c rest, s.si = .data c :: rest ∧ t = { s with num := 0, cnt := 1, st := .dProbe }) := by
  unfold decodeNext at h
  split at h <;> simp_all

/-- `D_EMIT`: wait for the sink, or push the point. -/
theorem decodeEmit_cases {s t : State} (h : decodeEmit s = .next t) :
    (s.poReady = false ∧ t = s) ∨
      (s.poReady = true ∧
        t = { s.pushPO ⟨toDegreesX s.ax, toDegreesY s.ay⟩ with axis := .x, st := .dNext }) := by
  unfold decodeEmit at h
  split at h <;> simp_all

/-- A transform's value is the formula's or the next free value. -/
theorem fixedOr_cases (r : Option Word32) (s : State) :
    (∃ v, r = some v ∧ fixedOr r s = (v, s)) ∨
      (r = none ∧ fixedOr r s = (Config.any32 s.draws, { s with draws := s.draws + 1 })) := by
  cases r <;> simp [fixedOr]

/-- `E_NEXT`: wait, end the pass, or take a point. -/
theorem encodeNext_cases {s t : State} (h : encodeNext s = .next t) :
    (s.pi = [] ∧ t = s) ∨ (∃ rest, s.pi = .endTok :: rest ∧ t = ({ s with pi := rest } : State).endCommand) ∨
      (∃ pt rest, s.pi = .data pt :: rest ∧
        ∃ vx vy, vx = fixedOr (toFixedX pt.x) (s.popPI rest) ∧ vy = fixedOr (toFixedY pt.y) vx.2 ∧
          t = { vy.2 with fx := vx.1, fy := vy.1, st := .eNumX }) := by
  unfold encodeNext at h
  split at h <;> simp_all

/-- After a number: X leads to the next number, Y to the point's emission. -/
theorem afterApply_cases (s : State) :
    (s.axis = .x ∧ afterApply s = { s with axis := .y, st := .dNext }) ∨
      (s.axis = .y ∧ afterApply s = { s with st := .dEmit }) := by
  unfold afterApply
  split <;> simp_all

/-- A number form acts in `D_APPLY` and nowhere else. -/
theorem inApply_cases {act : State → State} {s t : State} (h : inApply act s = .next t) :
    (s.st = .dApply ∧ t = act s) ∨ (s.st ≠ .dApply ∧ t = s) := by
  unfold inApply at h
  split at h <;> simp_all

end Machine
end Sys2Proof
end

