-- ==== Sys2Proof/Laws/PerInstr.lean ====
section
/-! SUPPORT. The encoder's output has the kind and the size of the instruction's row in spec/opcode_table.json: the number of
characters of a text form, or the code of a command (spec/30_encoding.md R51, R61). One lemma per constructor. -/

namespace Sys2Proof
namespace Laws

/-- The kind and size of an encoding: a command's code, or a text's number of characters. -/
inductive Shape where
  | command (code : BitVec 4)
  | text (symbols : Nat)
  deriving DecidableEq, Repr

/-- The shape of encoded words. -/
def shapeOf : Words → Shape
  | .command c => .command c.op
  | .text cs => .text cs.length

/-- The shape the opcode table gives each row. -/
def rowShape : Instr → Shape
  | .adds _ => .text 2
  | .addm _ => .text 3
  | .setf _ => .text 5
  | .skip _ => .text 1
  | .nop => .command 0
  | .symof _ => .command 1
  | .idxof _ => .command 2
  | .rdnum _ => .command 3
  | .decnum => .command 4
  | .wrnum _ _ => .command 5
  | .tofixx _ => .command 6
  | .tofixy _ => .command 7
  | .todegx _ => .command 8
  | .todegy _ => .command 9
  | .aclr => .command 10
  | .aadd _ _ => .command 11
  | .aload _ _ => .command 12
  | .adiff _ _ => .command 13
  | .decode => .command 14
  | .encode => .command 15
  | .sym00 | .sym01 | .sym02 | .sym03 | .sym04 | .sym05 | .sym06 | .sym07
  | .sym08 | .sym09 | .sym10 | .sym11 | .sym12 | .sym13 | .sym14 | .sym15
  | .sym16 | .sym17 | .sym18 | .sym19 | .sym20 | .sym21 | .sym22 | .sym23
  | .sym24 | .sym25 | .sym26 | .sym27 | .sym28 | .sym29 | .sym30 | .sym31
  | .sym32 | .sym33 | .sym34 | .sym35 | .sym36 | .sym37 | .sym38 | .sym39
  | .sym40 | .sym41 | .sym42 | .sym43 | .sym44 | .sym45 | .sym46 | .sym47
  | .sym48 | .sym49 | .sym50 | .sym51 | .sym52 | .sym53 | .sym54 | .sym55
  | .sym56 | .sym57 | .sym58 | .sym59 | .sym60 | .sym61 | .sym62 | .sym63 => .text 1

/-- An instruction is encoded in the shape of its row. -/
def EncodeWidth.Statement (i : Instr) : Prop := shapeOf (encode i) = rowShape i

theorem EncodeWidth.adds (d : Int) : EncodeWidth.Statement (.adds d) := rfl
theorem EncodeWidth.addm (d : Int) : EncodeWidth.Statement (.addm d) := rfl
theorem EncodeWidth.setf (v : BitVec 28) : EncodeWidth.Statement (.setf v) := rfl
theorem EncodeWidth.skip (c : Char8) : EncodeWidth.Statement (.skip c) := rfl
theorem EncodeWidth.nop : EncodeWidth.Statement .nop := rfl
theorem EncodeWidth.symof (i : Index) : EncodeWidth.Statement (.symof i) := rfl
theorem EncodeWidth.idxof (c : Char8) : EncodeWidth.Statement (.idxof c) := rfl
theorem EncodeWidth.rdnum (n : BitVec 3) : EncodeWidth.Statement (.rdnum n) := rfl
theorem EncodeWidth.decnum : EncodeWidth.Statement .decnum := rfl
theorem EncodeWidth.wrnum (d a : Word32) : EncodeWidth.Statement (.wrnum d a) := rfl
theorem EncodeWidth.tofixx (lon : Word64) : EncodeWidth.Statement (.tofixx lon) := rfl
theorem EncodeWidth.tofixy (lat : Word64) : EncodeWidth.Statement (.tofixy lat) := rfl
theorem EncodeWidth.todegx (n : Word32) : EncodeWidth.Statement (.todegx n) := rfl
theorem EncodeWidth.todegy (n : Word32) : EncodeWidth.Statement (.todegy n) := rfl
theorem EncodeWidth.aclr : EncodeWidth.Statement .aclr := rfl
theorem EncodeWidth.aadd (a : Axis) (d : Word32) : EncodeWidth.Statement (.aadd a d) := rfl
theorem EncodeWidth.aload (a : Axis) (v : Word32) : EncodeWidth.Statement (.aload a v) := rfl
theorem EncodeWidth.adiff (a : Axis) (x : Word32) : EncodeWidth.Statement (.adiff a x) := rfl
theorem EncodeWidth.decode : EncodeWidth.Statement .decode := rfl
theorem EncodeWidth.encode : EncodeWidth.Statement .encode := rfl
theorem EncodeWidth.sym00 : EncodeWidth.Statement .sym00 := rfl
theorem EncodeWidth.sym01 : EncodeWidth.Statement .sym01 := rfl
theorem EncodeWidth.sym02 : EncodeWidth.Statement .sym02 := rfl
theorem EncodeWidth.sym03 : EncodeWidth.Statement .sym03 := rfl
theorem EncodeWidth.sym04 : EncodeWidth.Statement .sym04 := rfl
theorem EncodeWidth.sym05 : EncodeWidth.Statement .sym05 := rfl
theorem EncodeWidth.sym06 : EncodeWidth.Statement .sym06 := rfl
theorem EncodeWidth.sym07 : EncodeWidth.Statement .sym07 := rfl
theorem EncodeWidth.sym08 : EncodeWidth.Statement .sym08 := rfl
theorem EncodeWidth.sym09 : EncodeWidth.Statement .sym09 := rfl
theorem EncodeWidth.sym10 : EncodeWidth.Statement .sym10 := rfl
theorem EncodeWidth.sym11 : EncodeWidth.Statement .sym11 := rfl
theorem EncodeWidth.sym12 : EncodeWidth.Statement .sym12 := rfl
theorem EncodeWidth.sym13 : EncodeWidth.Statement .sym13 := rfl
theorem EncodeWidth.sym14 : EncodeWidth.Statement .sym14 := rfl
theorem EncodeWidth.sym15 : EncodeWidth.Statement .sym15 := rfl
theorem EncodeWidth.sym16 : EncodeWidth.Statement .sym16 := rfl
theorem EncodeWidth.sym17 : EncodeWidth.Statement .sym17 := rfl
theorem EncodeWidth.sym18 : EncodeWidth.Statement .sym18 := rfl
theorem EncodeWidth.sym19 : EncodeWidth.Statement .sym19 := rfl
theorem EncodeWidth.sym20 : EncodeWidth.Statement .sym20 := rfl
theorem EncodeWidth.sym21 : EncodeWidth.Statement .sym21 := rfl
theorem EncodeWidth.sym22 : EncodeWidth.Statement .sym22 := rfl
theorem EncodeWidth.sym23 : EncodeWidth.Statement .sym23 := rfl
theorem EncodeWidth.sym24 : EncodeWidth.Statement .sym24 := rfl
theorem EncodeWidth.sym25 : EncodeWidth.Statement .sym25 := rfl
theorem EncodeWidth.sym26 : EncodeWidth.Statement .sym26 := rfl
theorem EncodeWidth.sym27 : EncodeWidth.Statement .sym27 := rfl
theorem EncodeWidth.sym28 : EncodeWidth.Statement .sym28 := rfl
theorem EncodeWidth.sym29 : EncodeWidth.Statement .sym29 := rfl
theorem EncodeWidth.sym30 : EncodeWidth.Statement .sym30 := rfl
theorem EncodeWidth.sym31 : EncodeWidth.Statement .sym31 := rfl
theorem EncodeWidth.sym32 : EncodeWidth.Statement .sym32 := rfl
theorem EncodeWidth.sym33 : EncodeWidth.Statement .sym33 := rfl
theorem EncodeWidth.sym34 : EncodeWidth.Statement .sym34 := rfl
theorem EncodeWidth.sym35 : EncodeWidth.Statement .sym35 := rfl
theorem EncodeWidth.sym36 : EncodeWidth.Statement .sym36 := rfl
theorem EncodeWidth.sym37 : EncodeWidth.Statement .sym37 := rfl
theorem EncodeWidth.sym38 : EncodeWidth.Statement .sym38 := rfl
theorem EncodeWidth.sym39 : EncodeWidth.Statement .sym39 := rfl
theorem EncodeWidth.sym40 : EncodeWidth.Statement .sym40 := rfl
theorem EncodeWidth.sym41 : EncodeWidth.Statement .sym41 := rfl
theorem EncodeWidth.sym42 : EncodeWidth.Statement .sym42 := rfl
theorem EncodeWidth.sym43 : EncodeWidth.Statement .sym43 := rfl
theorem EncodeWidth.sym44 : EncodeWidth.Statement .sym44 := rfl
theorem EncodeWidth.sym45 : EncodeWidth.Statement .sym45 := rfl
theorem EncodeWidth.sym46 : EncodeWidth.Statement .sym46 := rfl
theorem EncodeWidth.sym47 : EncodeWidth.Statement .sym47 := rfl
theorem EncodeWidth.sym48 : EncodeWidth.Statement .sym48 := rfl
theorem EncodeWidth.sym49 : EncodeWidth.Statement .sym49 := rfl
theorem EncodeWidth.sym50 : EncodeWidth.Statement .sym50 := rfl
theorem EncodeWidth.sym51 : EncodeWidth.Statement .sym51 := rfl
theorem EncodeWidth.sym52 : EncodeWidth.Statement .sym52 := rfl
theorem EncodeWidth.sym53 : EncodeWidth.Statement .sym53 := rfl
theorem EncodeWidth.sym54 : EncodeWidth.Statement .sym54 := rfl
theorem EncodeWidth.sym55 : EncodeWidth.Statement .sym55 := rfl
theorem EncodeWidth.sym56 : EncodeWidth.Statement .sym56 := rfl
theorem EncodeWidth.sym57 : EncodeWidth.Statement .sym57 := rfl
theorem EncodeWidth.sym58 : EncodeWidth.Statement .sym58 := rfl
theorem EncodeWidth.sym59 : EncodeWidth.Statement .sym59 := rfl
theorem EncodeWidth.sym60 : EncodeWidth.Statement .sym60 := rfl
theorem EncodeWidth.sym61 : EncodeWidth.Statement .sym61 := rfl
theorem EncodeWidth.sym62 : EncodeWidth.Statement .sym62 := rfl
theorem EncodeWidth.sym63 : EncodeWidth.Statement .sym63 := rfl

end Laws
end Sys2Proof
end

