-- ==== Sys2Proof/Laws/Step.lean ====
section
/-! SUPPORT. What a step is in each state of the FSM, over any table; and that the machine is the case of its own table. -/

namespace Sys2Proof
namespace Machine

theorem stepOf_reset {tab : Config.Table} {s : State} (h : s.rst = true) : stepOf tab s = .next (resetRegisters s) := by
  simp [stepOf, h]

/-- With `rst` low a step is decided by the fetch. -/
theorem stepOf_of_fetch {tab : Config.Table} {s : State} (h : s.rst = false) :
    stepOf tab s = match fetchOf tab s with
      | .nothing => .next s
      | .rejected e => .refused (refusalOf e)
      | .instr i => execOf tab i s := by
  cases hf : fetchOf tab s <;> simp [stepOf, h, hf]

theorem stepOf_idle_none {tab : Config.Table} {s : State} (h : s.rst = false) (hs : s.st = .idle) (hp : s.port = none) : stepOf tab s = .next s := by
  simp [stepOf, h, fetchOf, hs, hp]

theorem stepOf_idle {tab : Config.Table} {s : State} {c : Command} {i : Instr} (h : s.rst = false) (hs : s.st = .idle) (hp : s.port = some c)
    (hd : decodeCommand c = .ok i) : stepOf tab s = execOf tab i s := by
  simp [stepOf, h, fetchOf, hs, hp, fetchCommand, hd]

theorem stepOf_unit {tab : Config.Table} {s : State} {i : Instr} (h : s.rst = false) (hs : s.st = .unit) (hd : decodeCommand s.cmd = .ok i) :
    stepOf tab s = execOf tab i s := by
  simp [stepOf, h, fetchOf, hs, fetchCommand, hd]

theorem stepOf_char {tab : Config.Table} {s : State} {c : Char8} {rest : List (Item Char8)} (h : s.rst = false)
    (hs : s.st = .dProbe ∨ s.st = .dExtra) (hi : s.si = .data c :: rest) : stepOf tab s = execOf tab (charInstrOf tab c) s := by
  rcases hs with hs | hs <;> simp [stepOf, h, fetchOf, hs, hi]

theorem stepOf_dApply {tab : Config.Table} {s : State} (h : s.rst = false) (hs : s.st = .dApply) :
    stepOf tab s = execOf tab (formOf s.tier s.p s.num) s := by
  simp [stepOf, h, fetchOf, hs]

theorem stepOf_dNext {tab : Config.Table} {s : State} (h : s.rst = false) (hs : s.st = .dNext) : stepOf tab s = decodeNext s := by
  simp [stepOf, h, fetchOf, hs, execOf, execDecodeOf]

theorem stepOf_dEmit {tab : Config.Table} {s : State} (h : s.rst = false) (hs : s.st = .dEmit) : stepOf tab s = decodeEmit s := by
  simp [stepOf, h, fetchOf, hs, execOf, execDecodeOf]

theorem stepOf_eNext {tab : Config.Table} {s : State} (h : s.rst = false) (hs : s.st = .eNext) : stepOf tab s = encodeNext s := by
  simp [stepOf, h, fetchOf, hs, execOf, execEncodeOf]

theorem stepOf_eNumX {tab : Config.Table} {s : State} (h : s.rst = false) (hs : s.st = .eNumX) :
    stepOf tab s = .next { loadEncoder (s.fx - s.ax) s.fx s with st := .eShX } := by
  simp [stepOf, h, fetchOf, hs, execOf, execEncodeOf]

theorem stepOf_eShX {tab : Config.Table} {s : State} (h : s.rst = false) (hs : s.st = .eShX) : stepOf tab s = encodeShift tab .eNumY s := by
  simp [stepOf, h, fetchOf, hs, execOf, execEncodeOf]

theorem stepOf_eNumY {tab : Config.Table} {s : State} (h : s.rst = false) (hs : s.st = .eNumY) :
    stepOf tab s = .next { loadEncoder (s.fy - s.ay) s.fy s with st := .eShY } := by
  simp [stepOf, h, fetchOf, hs, execOf, execEncodeOf]

theorem stepOf_eShY {tab : Config.Table} {s : State} (h : s.rst = false) (hs : s.st = .eShY) : stepOf tab s = encodeShift tab .eUpd s := by
  simp [stepOf, h, fetchOf, hs, execOf, execEncodeOf]

theorem stepOf_eUpd {tab : Config.Table} {s : State} (h : s.rst = false) (hs : s.st = .eUpd) :
    stepOf tab s = .next { s with ax := s.fx, ay := s.fy, st := .eNext } := by
  simp [stepOf, h, fetchOf, hs, execOf, execEncodeOf]

/-- The symbol instruction of an index consumes that index. -/
theorem execOf_symInstr (tab : Config.Table) (s : State) : ∀ i : Index, execOf tab (symInstr i) s = consumeSymbol i s := by
  have h : ∀ k : Fin 64, execOf tab (symInstr (BitVec.ofFin k)) s = consumeSymbol (BitVec.ofFin k) s := by
    intro k
    fin_cases k <;> rfl
  intro i
  exact h i.toFin

/-- In `D_PROBE` and `D_EXTRA` a step is one turn of the reader, whatever stands at the head of SI. -/
theorem stepOf_reading {tab : Config.Table} {s : State} (h : s.rst = false) (hs : s.st = .dProbe ∨ s.st = .dExtra) : stepOf tab s = readStep tab s := by
  cases hsi : s.si with
  | nil => rcases hs with hs | hs <;> simp [stepOf, h, fetchOf, hs, hsi, execOf, execDecodeOf]
  | cons it rest =>
    cases it with
    | endTok => rcases hs with hs | hs <;> simp [stepOf, h, fetchOf, hs, hsi, execOf, execDecodeOf]
    | data c =>
      rw [stepOf_char h hs hsi]
      cases hr : revOf tab c with
      | none => rw [charInstrOf_of_none hr, readStep_filler hsi hr]; rfl
      | some i => rw [charInstrOf_of_some hr, readStep_symbol hsi hr, execOf_symInstr]

/-! ## The machine is the case of its own table -/

theorem execOf_alphabet (i : Instr) (s : State) : execOf Config.alphabet i s = exec i s := by
  cases i <;> rfl

theorem stepOf_alphabet (s : State) : stepOf Config.alphabet s = step s := by
  simp only [stepOf, step, fetch]
  split
  · rfl
  · split <;> simp_all [execOf_alphabet]

end Machine
end Sys2Proof
end

