-- ==== Sys2Proof/Tests/Slice0.lean ====
section
/-! SUPPORT. The model's own tests: ill-formed terms, decoding of words written out from the spec's tables, one-step tests with
results from spec/95_test_vectors.md, and for every statement with hypotheses a witness of each of its clauses. -/

namespace Sys2Proof
namespace Tests

-- One theorem after another: evaluated side by side, they ask for more threads than the check's memory limit allows.
set_option Elab.async false

open Sys2Proof.Machine Sys2Proof.Safety

/-! ## Helpers -/

/-- The state a step gives, if it gives one. -/
def after (r : Result) : Option State :=
  match r with
  | .next s => some s
  | .fault _ => none
  | .refused _ => none

/-- A result that `after` reads as a next state is that next state. -/
theorem next_of_after {r : Result} {t : State} (h : after r = some t) : r = .next t := by
  unfold after at h
  split at h <;> simp_all

/-- One register of the state a step gives. -/
def got {α : Type} (f : State → α) (r : Result) : Option α := (after r).map f

/-- Reset values, but for `ST` and the position in a unit operation. -/
def inState (st : FsmState) (upos : UnitPos := .entry) : State := { State.reset with st := st, upos := upos }

/-- In `UNIT` at a position, a command latched. -/
def inUnit (op : BitVec 4) (opa opb : Word64) (upos : UnitPos := .entry) : State :=
  { inState .unit upos with cmd := ⟨op, opa, opb⟩ }

/-- In `IDLE`, a command on the port. -/
def presenting (op : BitVec 4) (opa opb : Word64) : State := { State.reset with port := some ⟨op, opa, opb⟩ }

/-- A text and its `END` at the head of SI. -/
def withText (s : State) (text : List Char8) : State := { s with si := textItems text }

/-! ## WellFormed refuses -/

theorem test_adds_too_small : (Instr.adds (-1025)).wellFormed = false := by decide +kernel
theorem test_adds_too_large : (Instr.adds 1024).wellFormed = false := by decide +kernel
theorem test_addm_too_small : (Instr.addm (-32769)).wellFormed = false := by decide +kernel
theorem test_addm_too_large : (Instr.addm 32768).wellFormed = false := by decide +kernel
theorem test_skip_of_a_symbol : (Instr.skip 0x74).wellFormed = false := by decide +kernel
theorem test_rdnum_reserved : (Instr.rdnum 6).wellFormed = false ∧ (Instr.rdnum 7).wellFormed = false := by decide +kernel

/-! ## Decoding of words written out from the tables (R52 to R54, R61, R74) -/

/-- SYM_00 to SYM_15, from the codes of R74. -/
theorem test_decode_symbols_00 :
    [(0x30, Instr.sym00), (0x41, Instr.sym01), (0x42, Instr.sym02), (0x43, Instr.sym03), (0x44, Instr.sym04),
     (0x32, Instr.sym05), (0x45, Instr.sym06), (0x46, Instr.sym07), (0x47, Instr.sym08), (0x48, Instr.sym09),
     (0x34, Instr.sym10), (0x49, Instr.sym11), (0x4A, Instr.sym12), (0x4B, Instr.sym13), (0x4C, Instr.sym14),
     (0x4D, Instr.sym15)].all
      (fun r => decodeTableWord 8 r.1 == some r.2 && decode (.text [BitVec.ofNat 8 r.1]) == .ok r.2) = true := by
  decide +kernel

/-- SYM_16 to SYM_31, from the codes of R74. -/
theorem test_decode_symbols_16 :
    [(0x4E, Instr.sym16), (0x36, Instr.sym17), (0x4F, Instr.sym18), (0x50, Instr.sym19), (0x51, Instr.sym20),
     (0x52, Instr.sym21), (0x53, Instr.sym22), (0x54, Instr.sym23), (0x38, Instr.sym24), (0x55, Instr.sym25),
     (0x56, Instr.sym26), (0x57, Instr.sym27), (0x58, Instr.sym28), (0x59, Instr.sym29), (0x5A, Instr.sym30),
     (0x2D, Instr.sym31)].all
      (fun r => decodeTableWord 8 r.1 == some r.2 && decode (.text [BitVec.ofNat 8 r.1]) == .ok r.2) = true := by
  decide +kernel

/-- SYM_32 to SYM_47, from the codes of R74. -/
theorem test_decode_symbols_32 :
    [(0x31, Instr.sym32), (0x61, Instr.sym33), (0x62, Instr.sym34), (0x63, Instr.sym35), (0x64, Instr.sym36),
     (0x33, Instr.sym37), (0x65, Instr.sym38), (0x66, Instr.sym39), (0x67, Instr.sym40), (0x68, Instr.sym41),
     (0x35, Instr.sym42), (0x69, Instr.sym43), (0x6A, Instr.sym44), (0x6B, Instr.sym45), (0x6C, Instr.sym46),
     (0x6D, Instr.sym47)].all
      (fun r => decodeTableWord 8 r.1 == some r.2 && decode (.text [BitVec.ofNat 8 r.1]) == .ok r.2) = true := by
  decide +kernel

/-- SYM_48 to SYM_63, from the codes of R74. -/
theorem test_decode_symbols_48 :
    [(0x6E, Instr.sym48), (0x37, Instr.sym49), (0x6F, Instr.sym50), (0x70, Instr.sym51), (0x71, Instr.sym52),
     (0x72, Instr.sym53), (0x73, Instr.sym54), (0x74, Instr.sym55), (0x39, Instr.sym56), (0x75, Instr.sym57),
     (0x76, Instr.sym58), (0x77, Instr.sym59), (0x78, Instr.sym60), (0x79, Instr.sym61), (0x7A, Instr.sym62),
     (0x2E, Instr.sym63)].all
      (fun r => decodeTableWord 8 r.1 == some r.2 && decode (.text [BitVec.ofNat 8 r.1]) == .ok r.2) = true := by
  decide +kernel

/-- The sixteen codes of R61, with operands in the bits the table names and ones elsewhere. -/
theorem test_decode_commands :
    [(⟨0, 0xFFFFFFFFFFFFFFFF, 0xFFFFFFFFFFFFFFFF⟩, Instr.nop), (⟨1, 0x1C5, 0⟩, .symof 5), (⟨2, 0x174, 0⟩, .idxof 0x74),
     (⟨3, 0xD, 0⟩, .rdnum 5), (⟨4, 0, 0⟩, .decnum), (⟨5, 0x9FFFF16D3, 0x70C6F0947⟩, .wrnum 0xFFFF16D3 0x0C6F0947),
     (⟨6, 0x402D394168000000, 0⟩, .tofixx 0x402D394168000000), (⟨7, 0xC056800000000000, 0⟩, .tofixy 0xC056800000000000),
     (⟨8, 0x308A64008, 0⟩, .todegx 0x08A64008), (⟨9, 0x30C737148, 0⟩, .todegy 0x0C737148), (⟨10, 7, 7⟩, .aclr),
     ((⟨11, 2, 0x1FFFFFFFF⟩ : Command), .aadd .x 0xFFFFFFFF), (⟨12, 3, 7⟩, .aload .y 7), (⟨13, 1, 0x70C6F0947⟩, .adiff .y 0x0C6F0947),
     (⟨14, 1, 1⟩, .decode), (⟨15, 1, 1⟩, .encode)].all (fun r => decode (.command r.1) == .ok r.2) = true := by
  decide +kernel

/-- The command codes as table words: the operands are zeros. -/
theorem test_decode_command_words :
    [(0, Instr.nop), (1, .symof 0), (2, .idxof 0), (3, .rdnum 0), (4, .decnum), (5, .wrnum 0 0), (6, .tofixx 0), (7, .tofixy 0),
     (8, .todegx 0), (9, .todegy 0), (10, .aclr), (11, .aadd .x 0), (12, .aload .x 0), (13, .adiff .x 0), (14, .decode),
     (15, .encode)].all (fun r => decodeTableWord 8 r.1 == some r.2) = true := by
  decide +kernel

/-- Number forms, from the words of 95_test_vectors.md sections 1 to 3 and 7: binary 0 10000000101, 10 1101010100000000,
11 1000101001100100000000001000, and the ends of each operand's range. -/
theorem test_decode_number_words :
    [(16, 0b010000000101, Instr.adds 5), (16, 0x000, .adds (-1024)), (16, 0x7FF, .adds 1023), (24, 0b101101010100000000, .addm 21760),
     (24, 0x20000, .addm (-32768)), (24, 0x2FFFF, .addm 32767), (32, 0b111000101001100100000000001000, .setf 145113096),
     (32, 0x30000000, .setf 0), (32, 0x3FFFFFFF, .setf 268435455)].all
      (fun r => decodeTableWord r.1 r.2.1 == some r.2.2) = true := by
  decide +kernel

/-- A word without its length's marker is no word of that length (R56). -/
theorem test_decode_rejects_by_name :
    decodeTableWord 16 0x800 = none ∧ decodeTableWord 24 0x30000 = none ∧ decodeTableWord 32 0x20000000 = none ∧
      decode (.text [0x39, 0x68, 0x64]) = .error .exhausted ∧ decode (.text [0x4E, 0x32, 0x30]) = .error .leftover ∧
      decode (.command ⟨3, 6, 0⟩) = .error .reservedCount := by
  decide +kernel

/-- Fillers, from 95_test_vectors.md section 5.1: space, newline, comma and the codes from 0x80. -/
theorem test_decode_fillers :
    [0x20, 0x2B, 0x2C, 0x2F, 0x5F, 0x80, 0xFF].all (fun w => decodeTableWord 8 w == some (.skip (BitVec.ofNat 8 w))) = true ∧
      decode (.text [0x0A]) = .ok (.skip 0x0A) := by
  decide +kernel

/-! ## The host's table words run as the first instruction after reset -/

theorem test_fetch_word_aclr :
    after (step (({ State.reset with ax := 7 } : State).withFetchWord 8 10)) =
      after (exec .aclr (({ State.reset with ax := 7 } : State).withFetchWord 8 10)) ∧
    got (fun t => (t.ax, t.doneFlag)) (step (({ State.reset with ax := 7 } : State).withFetchWord 8 10)) = some (0, true) := by
  decide +kernel

theorem test_fetch_word_decode : got (·.st) (step (State.reset.withFetchWord 8 14)) = some .dNext := by decide +kernel

theorem test_fetch_word_symbol :
    got (fun t => (t.p, t.tier, t.cnt, t.st)) (step (State.reset.withFetchWord 8 0x39)) = some (56, .full, 4, .dExtra) := by
  decide +kernel

theorem test_fetch_word_setf :
    got (fun t => (t.ax, t.axis)) (step (State.reset.withFetchWord 32 0x38A64008)) = some (145113096, .y) := by
  decide +kernel

theorem test_fetch_word_addm :
    got (·.ax) (step (State.reset.withFetchWord 24 0x2D500)) = some 21760 := by decide +kernel

/-! ## One step of each instruction, results from 95_test_vectors.md -/

/-- Section 5.1. -/
theorem test_symof : [(0, 0x30), (5, 0x32), (56, 0x39), (63, 0x2E), (16, 0x4E)].all (fun r =>
    got (fun t => (t.res, t.resv, t.doneFlag, t.st)) (exec (.symof r.1) (inUnit 1 0 0)) == some (r.2, true, true, .idle))
      = true := by
  decide +kernel

/-- Section 5.1: found and NOT_FOUND. -/
theorem test_idxof : [(0x30, 0, true), (0x74, 55, true), (0x58, 28, true), (0x78, 60, true), (0x2E, 63, true), (0x20, 0, false),
    (0x0A, 0, false), (0x80, 0, false), (0xFF, 0, false)].all (fun r =>
    got (fun t => (t.res, t.resv)) (exec (.idxof r.1) { inUnit 2 0 0 with res := 9 }) == some (r.2.1, r.2.2)) = true := by
  decide +kernel

/-- Section 4.1, X, but for the open values. -/
theorem test_tofixx : [(0xC066800000000000, 0), (0xC0667FFFFE980000, 1), (0xC0667FFFF8F80000, 3), (0x8000000000000000, 134217728),
    (0x402D394168000000, 145113096), (0x40667FFFFE97FFFE, 268435455), (0x40667FFFFE97FFFF, 268435456),
    (0xC066800001680000, 0xFFFFFFFF), (0x40A517FFFFDE7211, 2147483647), (0xC0A7E80000000000, 0x80000000)].all (fun r =>
    got (·.res) (exec (.tofixx r.1) (inUnit 6 0 0)) == some r.2) = true := by
  decide +kernel

/-- Section 4.1, X, the open values: no fixed value, so the result is the free value, whichever it is. -/
theorem test_tofixx_open : [0x40A5180000000000, 0xC0A7E80000218DEF, 0x41CDCD6500000000, 0x7FF8000000000000,
    0x7FF0000000000000].all (fun r => toFixedX r == none && got (fun t => (t.draws, t.resv)) (exec (.tofixx r) (inUnit 6 0 0)) ==
      some (1, true)) = true := by
  decide +kernel

/-- Section 4.1, Y. -/
theorem test_tofixy : [(0xC056800000000000, 0), (0xC0567FFFFE980000, 1), (0, 134217728), (0x4049095D35000000, 208892232),
    (0x40567FFFFE97FFFE, 268435455), (0x40567FFFFE97FFFF, 268435456), (0xC0568000016D127D, 0xFFFFFFFF),
    (0x409517FFFFE5280D, 2147483647), (0xC097E80000000000, 0x80000000)].all (fun r =>
    got (·.res) (exec (.tofixy r.1) (inUnit 7 0 0)) == some r.2) = true := by
  decide +kernel

/-- Section 4.2, X. -/
theorem test_todegx : [(0, 0xC066800000000000), (5, 0xC0667FFFF1F00000), (0x08000000, 0), (0x08A64008, 0x402D394168000000),
    (0x10000000, 0x4066800000000000), (0xFFFFFFFF, 0xC066800002D00000), (0xFFFFFC00, 0xC066800B40000000),
    (0x80000000, 0xC0A7E80000000000)].all (fun r => got (·.res) (exec (.todegx r.1) (inUnit 8 0 0)) == some r.2) = true := by
  decide +kernel

/-- Section 4.2, Y. -/
theorem test_todegy : [(0, 0xC056800000000000), (5, 0xC0567FFFF1F00000), (0x08000000, 0), (0x0C737148, 0x4049095D35000000),
    (0x10000000, 0x4056800000000000), (0xFFFFFFFF, 0xC056800002D00000), (0xFFFFFC00, 0xC056800B40000000),
    (0x80000000, 0xC097E80000000000)].all (fun r => got (·.res) (exec (.todegy r.1) (inUnit 9 0 0)) == some r.2) = true := by
  decide +kernel

/-- Section 6, rows 7, 2, 9 and 4; rows 10 to 12 wrap. -/
theorem test_aclr : got (fun t => (t.ax, t.ay, t.res, t.resv, t.doneFlag))
    (exec .aclr { inUnit 10 0 0 with ax := 5, ay := 6, res := 144514824 }) = some (0, 0, 144514824, false, true) := by
  decide +kernel

theorem test_aadd : got (fun t => (t.ax, t.ay, t.res)) (exec (.aadd .x 21760) { inUnit 11 0 0 with ax := 144493064, ay := 3 }) =
      some (144514824, 3, 144514824) ∧
    got (fun t => (t.ax, t.ay, t.res)) (exec (.aadd .y 1) { inUnit 11 1 0 with ax := 3, ay := 0x7FFFFFFF }) =
      some (3, 0x80000000, 0x80000000) := by
  decide +kernel

theorem test_aload : got (fun t => (t.ax, t.ay, t.res)) (exec (.aload .y 0x7FFFFFFF) { inUnit 12 1 0 with ax := 0xFFFFFFFF }) =
      some (0xFFFFFFFF, 0x7FFFFFFF, 0x7FFFFFFF) := by
  decide +kernel

theorem test_adiff : got (fun t => (t.ay, t.res)) (exec (.adiff .y 208603463) { inUnit 13 1 0 with ay := 208663156 }) =
      some (208663156, 0xFFFF16D3) ∧
    got (·.res) (exec (.adiff .x 0) { inUnit 13 0 0 with ax := 0xFFFFFFFF }) = some 1 := by
  decide +kernel

/-- Section 5.2: count 0 ends at once; the last symbol of S4. -/
theorem test_rdnum : got (fun t => (t.res, t.resv, t.cur)) (exec (.rdnum 0) (withText (inUnit 3 0 0) [])) = some (0, true, 0) ∧
    got (fun t => (t.res, t.cur, t.st)) (exec (.rdnum 4)
      { withText (inUnit 3 4 0 .read) [0x32, 0x47] with num := 247607, cnt := 1, cur := 3 }) = some (15846853, 4, .idle) := by
  decide +kernel

/-- Section 5.3: the last symbols of `9hd0G` and of `100`. -/
theorem test_decnum : got (·.res) (exec .decnum
      { withText (inUnit 4 0 0 .extra) [0x47] with p := 56, tier := .full, num := 170240, cnt := 1 }) = some 0x208A64008 ∧
    got (·.res) (exec .decnum
      { withText (inUnit 4 0 0 .extra) [0x30] with p := 32, tier := .medium, num := 0, cnt := 1 }) = some 0x1FFFF8000 := by
  decide +kernel

/-- Section 6: the word of `WRNUM 0xFFFF16D3, 208603463`, and its last symbol. -/
theorem test_wrnum : got (fun t => (t.osr, t.ocnt)) (exec (.wrnum 0xFFFF16D3 208603463) (inUnit 5 0xFFFF16D3 208603463)) =
      some (0x3C6F0947, 5) ∧
    got (fun t => (t.so, t.res, t.osr, t.st)) (exec (.wrnum 0xFFFF16D3 208603463)
      { inUnit 5 0xFFFF16D3 208603463 .shift with osr := 0x07000000, ocnt := 1 }) = some ([0x46], 5, 0, .idle) := by
  decide +kernel

/-- Section 3: every row's characters. -/
theorem test_wrnum_tiers : [(0x80000000, "vmKw7"), (0xFFFF7FFF, "vmKw7"), (0xFFFF8000, "100"), (0xFFFF8001, "10A"),
    (0xFFFFFBFF, "fm."), (0xFFFFFC00, "00"), (0xFFFFFC01, "0A"), (0xFFFFFFFF, "M."), (0, "N0"), (1, "NA"), (0x3FF, "-."),
    (0x400, "gN0"), (0x7FFF, "m.."), (0x8000, "vmKw7"), (0x7FFFFFFF, "vmKw7")].all (fun r =>
      wrnumText Config.alphabet r.1 0x0ABCDEF1 == r.2.toList.map fun c => BitVec.ofNat 8 c.toNat) = true := by
  decide +kernel

/-- Section 2, numbers 2, 3 and 6. -/
theorem test_number_forms :
    got (fun t => (t.ax, t.axis, t.st)) (exec (.addm 21760) { inState .dApply with ax := 144493064 }) =
      some (144514824, .y, .dNext) ∧
    got (fun t => (t.ay, t.axis, t.st)) (exec (.setf 208670408) { inState .dApply with ay := 3, axis := .y }) =
      some (208670408, .y, .dEmit) ∧
    got (·.ax) (exec (.adds (-1)) { inState .dApply with ax := 145113101 }) = some 145113100 := by
  decide +kernel

/-- Program 3: a filler in front of a probe. -/
theorem test_skip : got (fun t => (t.cur, t.si, t.num, t.cnt, t.st)) (exec (.skip 0x20)
    { withText (inState .dProbe) [0x20, 0x78] with cnt := 1, cur := 5 }) =
      some (6, textItems [0x78], 0, 1, .dProbe) := by
  decide +kernel

/-- Program 1: the probe `9`, then `h` as the first of four more symbols. -/
theorem test_symbols :
    got (fun t => (t.p, t.tier, t.cnt, t.cur, t.st)) (exec .sym56 (withText (inState .dProbe) [0x39])) =
      some (56, .full, 4, 1, .dExtra) ∧
    got (fun t => (t.num, t.cnt, t.cur)) (exec .sym41
      { withText (inState .dExtra) [0x68] with p := 56, tier := .full, cnt := 4, cur := 1 }) = some (41, 3, 2) := by
  decide +kernel

/-- Section 6, row 13, and a DECODE that failed: NOP keeps the flags. -/
theorem test_nop : got (fun t => (t.res, t.resv, t.doneFlag, t.err, t.cur)) (exec .nop
    { presenting 0 0 0 with res := 7, doneFlag := true, err := .bufferExhausted, cur := 3 }) =
      some (7, false, true, .bufferExhausted, 3) := by
  decide +kernel

/-- Program 1: the point is pushed. -/
theorem test_decode_emit : got (fun t => (t.po, t.axis, t.st)) (exec .decode
    { inState .dEmit with ax := 145113096, ay := 208892232, axis := .y }) =
      some ([⟨0x402D394168000000, 0x4049095D35000000⟩], .x, .dNext) := by
  decide +kernel

/-- Source vector S2: the first point is loaded. -/
theorem test_encode_next : got (fun t => (t.fx, t.fy, t.cur, t.st)) (exec .encode
    { inState .eNext with pi := pointItems [⟨0x402D394168000000, 0x4049095D35000000⟩] }) =
      some (145113096, 208892232, 1, .eNumX) := by
  decide +kernel

/-! ## Witnesses: tables and encodings -/

/-- A second admissible table: the pairs of entries 1, 62 and 2, 61 exchanged, none of them fixed by R73. -/
def otherTable : Config.Table := (((Config.alphabet.set 1 0x7A).set 62 0x41).set 2 0x79).set 61 0x42

theorem otherTable_admissible : Config.Admissible otherTable := ⟨by decide +kernel, by decide +kernel, by decide +kernel⟩

theorem alphabet_admissible : Config.Admissible Config.alphabet := ⟨by decide +kernel, by decide +kernel, by decide +kernel⟩

/-- Over the second table `z` is the symbol of index 1 and `A` that of index 62. -/
theorem test_other_table :
    decodeOf otherTable (.text [0x7A]) = .ok .sym01 ∧ encodeOf otherTable .sym62 = .text [0x41] ∧
      got (·.res) (execOf otherTable (.symof 1) (inUnit 1 1 0)) = some 0x7A := by
  decide +kernel

theorem witness_RomReadsTheAlphabet : otherTable.length = 64 ∧ otherTable ≠ Config.alphabet := by decide +kernel

theorem witness_ReverseTableInvertsTheRom :
    Config.alphabet.length = 64 ∧ Config.alphabet.Nodup ∧ revOf Config.alphabet 0x2E = some 63 ∧
      (0x80#8).getLsbD 7 = true ∧ (0xFF#8).getLsbD 7 = true := by
  decide +kernel

theorem witness_SymbolCodecIsABijection : (inState .unit).st = .unit ∧ rev 0x78 = some 60 ∧
    Config.Admissible otherTable ∧ revOf otherTable 0x7A = some 1 :=
  ⟨rfl, by decide +kernel, otherTable_admissible, by decide +kernel⟩

theorem witness_SmallFormLayout : ((-1024 : Int) ≤ -1024 ∧ (-1024 : Int) ≤ 1023) ∧ ((-1024 : Int) ≤ 1023 ∧ (1023 : Int) ≤ 1023) := by
  decide +kernel

theorem witness_MediumFormLayout :
    ((-32768 : Int) ≤ -32768 ∧ (-32768 : Int) ≤ 32767) ∧ ((-32768 : Int) ≤ 32767 ∧ (32767 : Int) ≤ 32767) := by
  decide +kernel

theorem witness_LeadingSymbolDecidesTheForm :
    (48#6 &&& 0x30 = 0x30) ∧ (32#6 &&& 0x30 ≠ 0x30 ∧ 32#6 &&& 0x20 = 0x20) ∧ (47#6 &&& 0x30 ≠ 0x30 ∧ 47#6 &&& 0x20 = 0x20) ∧
      (31#6 &&& 0x30 ≠ 0x30 ∧ 31#6 &&& 0x20 ≠ 0x20) := by
  decide +kernel

theorem witness_OperandAssembly :
    (63#32).toNat < 2 ^ 6 ∧ (4095#32).toNat < 2 ^ 12 ∧ (16777215#32).toNat < 2 ^ 24 ∧ 48 ≤ (48#6).toNat := by
  decide +kernel

theorem witness_DecodeInvertsEncode :
    [Instr.adds (-1024), .adds 1023, .addm (-32768), .addm 32767, .setf 268435455, .skip 0x0A, .rdnum 5, .symof 63, .sym63,
     .wrnum 0x80000000 0xFFFFFFFF, .adiff .y 7].all Instr.wellFormed = true := by
  decide +kernel

theorem witness_DecodeInvertsEncode_tables :
    Config.Admissible otherTable ∧ [Instr.adds 1023, .addm (-32768), .skip 0x0A, .rdnum 5, .sym01].all
      (Instr.wellFormedOf otherTable) = true :=
  ⟨otherTable_admissible, by decide +kernel⟩

theorem witness_TableWordsDecode :
    2047 < 2 ^ 11 ∧ 2 ^ 11 ≤ 2048 ∧ (2 ^ 17 ≤ 131072 ∧ 131072 < 2 ^ 17 + 2 ^ 16) ∧ (131071 < 2 ^ 17 ∨ 2 ^ 17 + 2 ^ 16 ≤ 131071) ∧
      (3 * 2 ^ 28 ≤ 1073741823 ∧ 1073741823 < 2 ^ 30) ∧ (805306367 < 3 * 2 ^ 28 ∨ 2 ^ 30 ≤ 805306367) := by
  decide +kernel

/-! ## Witnesses: fetch and acceptance -/

theorem witness_StepRunsTheFetchedInstruction_idle :
    (State.reset.rst = false ∧ State.reset.st = .idle ∧ State.reset.port = none) ∧
    ((presenting 3 5 0).rst = false ∧ (presenting 3 5 0).st = .idle ∧ (presenting 3 5 0).port = some ⟨3, 5, 0⟩ ∧
      decodeCommand ⟨3, 5, 0⟩ = .ok (.rdnum 5)) := by
  decide +kernel

theorem witness_StepRunsTheFetchedInstruction_unit :
    (inUnit 13 1 7).rst = false ∧ (inUnit 13 1 7).st = .unit ∧ decodeCommand (inUnit 13 1 7).cmd = .ok (.adiff .y 7) := by
  decide +kernel

theorem witness_StepRunsTheFetchedInstruction_text :
    (let s := withText (inState .dProbe) [0x20]
     s.rst = false ∧ s.st = .dProbe ∧ s.si = .data 0x20 :: textItems []) ∧
    (let s := withText (inState .dExtra) [0x74]
     s.rst = false ∧ s.st = .dExtra ∧ s.si = .data 0x74 :: textItems []) ∧
    (let s := withText (inState .dExtra) []
     s.rst = false ∧ s.st = .dExtra ∧ s.si = .endTok :: []) ∧
    ((inState .dProbe).st = .dProbe ∧ (inState .dProbe).si = []) := by
  decide +kernel

theorem witness_StepRunsTheFetchedInstruction_pass :
    [FsmState.dApply, .dNext, .dEmit, .eNext, .eNumX, .eShX, .eNumY, .eShY, .eUpd].all
      (fun st => (inState st).st == st && !(inState st).rst) = true := by
  decide +kernel

/-- Over a second table, a character, a command on the port and a latched command. -/
theorem witness_StepRunsTheFetchedInstruction_tables :
    ((withText (inState .dExtra) [0x7A]).rst = false ∧ (withText (inState .dExtra) [0x7A]).st = .dExtra ∧
      (withText (inState .dExtra) [0x7A]).si = .data 0x7A :: textItems [] ∧ charInstrOf otherTable 0x7A = .sym01) ∧
    ((presenting 1 1 0).port = some ⟨1, 1, 0⟩ ∧ decodeCommand ⟨1, 1, 0⟩ = .ok (.symof 1)) ∧
    ((inUnit 1 1 0).st = .unit ∧ decodeCommand (inUnit 1 1 0).cmd = .ok (.symof 1)) := by
  decide +kernel

theorem witness_DecodeRunsItsTextsInstructions :
    ((withText (inState .dProbe) [0x39]).st = .dProbe ∧ (withText (inState .dProbe) [0x39]).si = .data 0x39 :: textItems []) ∧
      (inState .dApply).st = .dApply := by
  decide +kernel

/-- The first and the last unit operation on the port of an idle block. -/
theorem witness_UnitCommandsAreAccepted :
    ((presenting 1 63 0).st = .idle ∧ (presenting 1 63 0).port = some ⟨1, 63, 0⟩ ∧ decodeCommand ⟨1, 63, 0⟩ = .ok (.symof 63) ∧
      1 ≤ (1#4).toNat) ∧
    ((presenting 13 1 7).st = .idle ∧ (presenting 13 1 7).port = some ⟨13, 1, 7⟩ ∧
      decodeCommand ⟨13, 1, 7⟩ = .ok (.adiff .y 7) ∧ (13#4).toNat ≤ 13) := by
  decide +kernel

theorem witness_PassStartClearsEverything :
    ((presenting 14 0 0).st = .idle ∧ (presenting 14 0 0).port = some ⟨14, 0, 0⟩ ∧ decodeCommand ⟨14, 0, 0⟩ = .ok .decode) ∧
    ((presenting 15 9 9).st = .idle ∧ (presenting 15 9 9).port = some ⟨15, 9, 9⟩ ∧ decodeCommand ⟨15, 9, 9⟩ = .ok .encode) := by
  decide +kernel

theorem witness_NopChangesNothing : (presenting 0 1 2).st = .idle := rfl

theorem witness_BusyBlockIgnoresThePort :
    (inState .dNext).st ≠ .idle ∧ step (inState .dNext) = .next (inState .dNext) :=
  ⟨by decide +kernel, next_of_after (by decide +kernel)⟩

theorem witness_ReservedCountsAreRefused :
    (5#3 < 6#3) ∧ (5#3 < 7#3) ∧ (0xFFFFFFFFFFFFFFFE#64).setWidth 3 = 6#3 ∧ (inUnit 3 6 0).st = .unit ∧ State.reset.st = .idle := by
  decide +kernel

theorem witness_ReservedCountsAreRefused_steps :
    ((presenting 3 7 0).rst = false ∧ (presenting 3 7 0).st = .idle ∧ (presenting 3 7 0).port = some ⟨3, 7, 0⟩) ∧
    ((inUnit 3 6 0).rst = false ∧ (inUnit 3 6 0).st = .unit ∧ (inUnit 3 6 0).cmd = ⟨3, 6, 0⟩) ∧
    (⟨3, 7, 0⟩ : Command).opa.setWidth 3 = 7#3 ∧ (⟨3, 6, 0⟩ : Command).opa.setWidth 3 = 6#3 := by
  decide +kernel

/-! ## Witnesses: unit operations -/

theorem witness_SymofReturnsTheCharacter : (inUnit 1 63 0).st = .unit := rfl

theorem witness_IdxofReturnsTheIndex :
    (inUnit 2 0x78 0).st = .unit ∧ rev 0x78 = some 60 ∧ rev 0x20 = none ∧
      revOf otherTable 0x41 = some 62 ∧ revOf otherTable 0x20 = none ∧ 0x80#8 ≤ 0x80#8 ∧ 0x80#8 ≤ 0xFF#8 := by
  decide +kernel

theorem witness_RdnumReadsSymbols :
    (0#3 ≤ 5#3 ∧ 5#3 ≤ 5#3 ∧ 5#3 ≠ 0#3 ∧ (inUnit 3 0 0).st = .unit ∧ (inUnit 3 0 0).upos = .entry) ∧
    ((inUnit 3 5 0 .read).st = .unit ∧ (inUnit 3 5 0 .read).upos = .read ∧ (inUnit 3 5 0 .read).si = []) ∧
    ((withText (inUnit 3 5 0 .read) []).upos = .read ∧ (withText (inUnit 3 5 0 .read) []).si = .endTok :: []) := by
  decide +kernel

theorem witness_RdnumReadsSymbols_characters :
    (let s := { withText (inUnit 3 2 0 .read) [0x20, 0x78] with cnt := 2 }
     s.upos = .read ∧ s.si = .data 0x20 :: textItems [0x78] ∧ rev 0x20 = none) ∧
    (let s := { withText (inUnit 3 2 0 .read) [0x78] with cnt := 2 }
     s.upos = .read ∧ s.si = .data 0x78 :: textItems [] ∧ rev 0x78 = some 60 ∧ s.cnt ≠ 1#3) ∧
    (let s := { withText (inUnit 3 2 0 .read) [0x2E] with cnt := 1 }
     s.upos = .read ∧ s.si = .data 0x2E :: textItems [] ∧ rev 0x2E = some 63 ∧ s.cnt = 1#3) := by
  decide +kernel

theorem witness_DecnumReadsANumber :
    ((inUnit 4 0 0).st = .unit ∧ (inUnit 4 0 0).upos = .entry) ∧
    ((inUnit 4 0 0 .probe).upos = .probe ∧ (inUnit 4 0 0 .probe).si = []) ∧
    ((withText (inUnit 4 0 0 .extra) []).upos = .extra ∧ (withText (inUnit 4 0 0 .extra) []).si = .endTok :: []) ∧
    ((withText (inUnit 4 0 0 .probe) [0x20]).si = .data 0x20 :: textItems [] ∧ rev 0x20 = none) := by
  decide +kernel

theorem witness_DecnumReadsANumber_symbols :
    (let s := withText (inUnit 4 0 0 .probe) [0x39]
     s.upos = .probe ∧ s.si = .data 0x39 :: textItems [] ∧ rev 0x39 = some 56) ∧
    (let s := { withText (inUnit 4 0 0 .extra) [0x68] with cnt := 4, p := 56, tier := .full }
     s.upos = .extra ∧ s.si = .data 0x68 :: textItems [] ∧ rev 0x68 = some 41 ∧ s.cnt ≠ 1#3) ∧
    (let s := { withText (inUnit 4 0 0 .extra) [0x47] with cnt := 1, p := 56, tier := .full }
     s.upos = .extra ∧ s.si = .data 0x47 :: textItems [] ∧ rev 0x47 = some 8 ∧ s.cnt = 1#3) := by
  decide +kernel

theorem witness_FillersCostOnePop :
    (0 < 1 ∧ rev 0xFF = none) ∧
    [inState .dProbe, inState .dExtra, inUnit 3 1 0 .read, inUnit 4 0 0 .probe, inUnit 4 0 0 .extra].all (fun s =>
      let t := withText s [0x20]
      t.si == .data 0x20 :: textItems [] && (t.st == .dProbe || t.st == .dExtra ||
        (t.st == .unit && (t.upos == .read || t.upos == .probe || t.upos == .extra)))) = true := by
  decide +kernel

theorem witness_WrnumPushesSymbols :
    ((inUnit 5 0 0).st = .unit ∧ (inUnit 5 0 0).upos = .entry) ∧
    (let s := { inUnit 5 0 0 .shift with soReady := false }
     s.upos = .shift ∧ s.soReady = false) ∧
    (let s := { inUnit 5 0 0 .shift with ocnt := 5 }
     s.upos = .shift ∧ s.soReady = true ∧ s.ocnt ≠ 1#3) ∧
    (let s := { inUnit 5 0 0 .shift with ocnt := 1 }
     s.upos = .shift ∧ s.soReady = true ∧ s.ocnt = 1#3) := by
  decide +kernel

theorem witness_DecnumInvertsWrnum : Config.Admissible otherTable := otherTable_admissible

theorem witness_TierBoundaries :
    (0xFFFF7FFF#32).toInt ≤ -32769 ∧ (-32768 ≤ (0xFFFF8000#32).toInt ∧ (0xFFFFFBFF#32).toInt ≤ -1025) ∧
      (-1024 ≤ (0xFFFFFC00#32).toInt ∧ (0x3FF#32).toInt ≤ 1023) ∧ (1024 ≤ (0x400#32).toInt ∧ (0x7FFF#32).toInt ≤ 32767) ∧
      32768 ≤ (0x8000#32).toInt := by
  decide +kernel

theorem witness_WrnumSymbolsPerTier :
    (-1024 ≤ (0xFFFFFC00#32).toInt ∧ (0xFFFFFC00#32).toInt ≤ 1023) ∧
      ((-32768 ≤ (0xFFFF8000#32).toInt ∧ (0xFFFF8000#32).toInt ≤ -1025) ∨
        (1024 ≤ (0xFFFF8000#32).toInt ∧ (0xFFFF8000#32).toInt ≤ 32767)) ∧
      ((0x8000#32).toInt ≤ -32769 ∨ 32768 ≤ (0x8000#32).toInt) := by
  decide +kernel

/-- Rows of section 5.2: `x X t 2 G`, and two fillers before `END`. -/
theorem witness_RdnumStepsMeetItsDefinition :
    (let s := withText (inUnit 3 4 0) [0x78, 0x58, 0x74, 0x32, 0x47]
     s.rst = false ∧ s.st = .unit ∧ s.upos = .entry ∧ decodeCommand s.cmd = .ok (.rdnum 4) ∧
       rdnumLoop Config.alphabet (4#3).toNat 0 0 s.si = .value 15846853 4 (textItems [0x47])) ∧
    (let s := withText (inUnit 3 1 0) [0x20, 0x20]
     s.rst = false ∧ s.st = .unit ∧ s.upos = .entry ∧ decodeCommand s.cmd = .ok (.rdnum 1) ∧
       rdnumLoop Config.alphabet (1#3).toNat 0 0 s.si = .exhausted 2 []) := by
  decide +kernel

/-- Rows of section 5.3: `9 h d <sp> 0 <sp> G !`, and `9 h d`. -/
theorem witness_DecnumStepsMeetItsDefinition :
    (let s := withText (inUnit 4 0 0) [0x39, 0x68, 0x64, 0x20, 0x30, 0x20, 0x47, 0x21]
     s.rst = false ∧ s.st = .unit ∧ s.upos = .entry ∧ decodeCommand s.cmd = .ok .decnum ∧
       decnumOn Config.alphabet s.si = .value .full 145113096 7 (textItems [0x21])) ∧
    (let s := withText (inUnit 4 0 0) [0x39, 0x68, 0x64]
     s.rst = false ∧ s.st = .unit ∧ s.upos = .entry ∧ decodeCommand s.cmd = .ok .decnum ∧ decnumOn Config.alphabet s.si = .exhausted 3 []) := by
  decide +kernel

theorem witness_WrnumStepsMeetItsDefinition :
    let s := inUnit 5 0xFFFF16D3 208603463
    s.rst = false ∧ s.st = .unit ∧ s.upos = .entry ∧ s.soReady = true ∧
      decodeCommand s.cmd = .ok (.wrnum 0xFFFF16D3 208603463) := by
  decide +kernel

theorem witness_TofixReturnsTheFixedValue :
    (inUnit 6 0 0).st = .unit ∧ toFixedX 0xC066800000000000 = some 0 ∧ toFixedX 0x40A5180000000000 = none ∧
      toFixedY 0xC097E80000000000 = some 0x80000000 ∧ toFixedY 0x4095180000000000 = none := by
  decide +kernel

theorem witness_TofixFollowsTheFormula :
    toFixedX 0x40A517FFFFDE7211 = some 2147483647 ∧ toFixedY 0xC0568000016D127D = some 0xFFFFFFFF := by
  decide +kernel

/-- The exact value 2^53 + 1 is a tie; 2^1024 is beyond the largest finite number; 2^55 - 1 rounds up to a power of two. -/
theorem witness_RoundingIsToNearestEven :
    (0 < 2 ^ 53 + 1 ∧ 0 < 1) ∧ roundTo64 false (2 ^ 53 + 1) 1 0 = .fin false (2 ^ 52) 1 ∧
      roundTo64 true 1 1 1024 = .inf true ∧
      (roundTo64 false (2 ^ 55 - 1) 1 0 = .fin false (2 ^ 52) 3 ∧ (-1074 : Int) < 3) := by
  decide +kernel

theorem witness_RoundAwayIsNearest : (0 : Int) ≤ 0 ∧ (-1 : Int) < 0 ∧ roundAway true 1 (-1) = -1 ∧ roundAway false 5 (-1) = 3 := by
  decide +kernel

theorem witness_TodegReturnsTheExactDegrees : (inUnit 8 0 0).st = .unit := rfl

theorem witness_AclrClearsBothAccumulators :
    (inUnit 10 0 0).st = .unit ∧ (presenting 14 0 0).st = .idle ∧ (presenting 14 0 0).port = some ⟨14, 0, 0⟩ := by
  decide +kernel

theorem witness_AccumulatorOperations : (inUnit 11 1 0xFFFFFFFF).st = .unit := rfl

/-! ## Witnesses: number forms, symbols, passes -/

theorem witness_NumberFormsUpdateTheAccumulator :
    ((inState .dApply).st = .dApply ∧ (inState .dApply).axis = .x) ∧
      ({ inState .dApply with axis := .y }.st = .dApply ∧ { inState .dApply with axis := .y }.axis = .y) := by
  decide +kernel

theorem witness_SymbolsCarrySixBits :
    (Instr.sym00, 0#6) ∈ symbolRows ∧ (Instr.sym63, 63#6) ∈ symbolRows ∧
      [inState .dProbe, inState .dExtra, inUnit 4 0 0 .probe, { inUnit 3 2 0 .read with cnt := 2 }, { inUnit 3 2 0 .read with cnt := 1 },
       { inUnit 4 0 0 .extra with cnt := 4 }, { inUnit 4 0 0 .extra with cnt := 1 }].all
        (fun s => (withText s [0x2E]).si == .data 0x2E :: textItems []) = true := by
  decide +kernel

theorem witness_DecodeStatesFollowTheTable :
    ((inState .dNext).st = .dNext ∧ (inState .dNext).si = []) ∧ (withText (inState .dNext) []).si = .endTok :: [] ∧
      (withText (inState .dNext) [0x39]).si = .data 0x39 :: textItems [] ∧
      ((inState .dEmit).st = .dEmit ∧ (inState .dEmit).poReady = true ∧ { inState .dEmit with poReady := false }.poReady = false) ∧
      ((inState .dProbe).st = .dProbe ∧ (inState .dProbe).si = []) ∧ (withText (inState .dExtra) []).si = .endTok :: [] := by
  decide +kernel

/-- A point whose longitude and latitude are `x` and `y`, before `END`. -/
def beforePoint (x y : Word64) : State := { inState .eNext with pi := pointItems [⟨x, y⟩] }

theorem witness_EncodeStatesFollowTheTable_points :
    (beforePoint 0 0).st = .eNext ∧ (beforePoint 0 1).pi = .data ⟨0, 1⟩ :: pointItems [] ∧
      (inState .eNext).pi = [] ∧ { inState .eNext with pi := pointItems [] }.pi = .endTok :: [] ∧
      toFixedX 0x402D394168000000 = some 145113096 ∧ toFixedY 0x4049095D35000000 = some 208892232 ∧
      toFixedX 0x7FF8000000000000 = none ∧ toFixedY 0x7FF0000000000000 = none := by
  decide +kernel

theorem witness_EncodeStatesFollowTheTable_pushes :
    (inState .eNumX).st = .eNumX ∧ (inState .eNumY).st = .eNumY ∧ (inState .eUpd).st = .eUpd ∧
      ({ inState .eShX with ocnt := 1 }.st = .eShX ∧ { inState .eShX with ocnt := 1 }.soReady = true) ∧
      ({ inState .eShY with ocnt := 5 }.st = .eShY ∧ { inState .eShY with ocnt := 5 }.soReady = true) ∧
      { inState .eShY with soReady := false }.soReady = false := by
  decide +kernel

/-- Source vector S1 and Program 4: a whole text, and a text cut inside its second number. -/
theorem witness_DecodeStepsMeetTheWholePass :
    (let s := withText (presenting 14 0 0) [0x39, 0x68, 0x64, 0x30, 0x47, 0x78, 0x58, 0x74, 0x32, 0x47]
     s.rst = false ∧ s.st = .idle ∧ s.port = some ⟨14, 0, 0⟩ ∧ s.poReady = true ∧
       decodePass Config.alphabet s.si = .ok ⟨145113096, 208892232, .x, 10, [⟨0x402D394168000000, 0x4049095D35000000⟩]⟩ []) ∧
    (let s := withText (presenting 14 0 0) [0x39, 0x68, 0x64, 0x30, 0x47, 0x78, 0x58, 0x74]
     s.rst = false ∧ s.st = .idle ∧ s.port = some ⟨14, 0, 0⟩ ∧ s.poReady = true ∧
       decodePass Config.alphabet s.si = .exhausted ⟨145113096, 0, .y, 8, []⟩ []) := by
  decide +kernel

/-- Source vector S2. -/
theorem witness_EncodeStepsMeetTheWholePass :
    let s := { presenting 15 0 0 with pi := pointItems [⟨0x402D394168000000, 0x4049095D35000000⟩] }
    s.rst = false ∧ s.st = .idle ∧ s.port = some ⟨15, 0, 0⟩ ∧ s.soReady = true ∧
      encodePass Config.alphabet s.draws s.pi = .ok ⟨145113096, 208892232, 1, 0, [0x39, 0x68, 0x64, 0x30, 0x47, 0x78, 0x58, 0x74, 0x32, 0x47]⟩ [] := by
  decide +kernel

/-- Source vector S2, and a point at the ends of the range. -/
theorem witness_DecodeInvertsEncodeOfPoints :
    List.Forall₂ (fun pt f => toFixedX pt.x = some f.1 ∧ toFixedY pt.y = some f.2 ∧ f.1.toNat < 2 ^ 28 ∧ f.2.toNat < 2 ^ 28)
      [(⟨0x402D394168000000, 0x4049095D35000000⟩ : Point), ⟨0x40667FFFFE97FFFE, 0xC056800000000000⟩]
      [(145113096, 208892232), (268435455, 0)] ∧ Config.Admissible otherTable :=
  ⟨.cons (by decide +kernel) (.cons (by decide +kernel) .nil), otherTable_admissible⟩

theorem witness_FillersDoNotChangeThePoints : rev 0x47 ≠ none := by decide +kernel

/-- Program 5: a trailing newline. -/
theorem witness_TrailingFillersFail :
    (decodeText Config.alphabet [0x39, 0x68, 0x64, 0x30, 0x47, 0x78, 0x58, 0x74, 0x32, 0x47]).isSome = true ∧ ([0x0A] : List Char8) ≠ [] ∧
      ∀ c ∈ ([0x0A] : List Char8), rev c = none := by
  decide +kernel

theorem witness_EmptyInputGivesEmptyOutput :
    (let s := withText (presenting 14 0 0) []
     s.rst = false ∧ s.st = .idle ∧ s.port = some ⟨14, 0, 0⟩ ∧ s.si = .endTok :: []) ∧
    (let s := { presenting 15 0 0 with pi := pointItems [] }
     s.rst = false ∧ s.st = .idle ∧ s.port = some ⟨15, 0, 0⟩ ∧ s.pi = .endTok :: []) := by
  decide +kernel

/-! ## Witnesses: the machine as a whole -/

theorem witness_ResetStepClearsTheRegisters : { inState .dExtra with rst := true, ax := 7 }.rst = true := rfl

/-- A good state in the middle of a number: the probe `9` is read, four symbols are to come. -/
def midNumber : State :=
  { withText (inState .dExtra) [0x20, 0x68] with p := 56, tier := .full, cnt := 4, cur := 1 }

/-- The state after its next step, which pops a filler. -/
def midNumberNext : State := { midNumber with si := textItems [0x68], cur := 2 }

theorem midNumber_inv : Inv midNumber := by unfold Safety.Inv InvOf; decide +kernel

theorem midNumber_steps : step midNumber = .next midNumberNext := next_of_after (by decide +kernel)

theorem witness_StepKeepsTheInvariant : Safety.Inv midNumber ∧ step midNumber = .next midNumberNext ∧
    Config.Admissible otherTable ∧ InvOf otherTable midNumber ∧ stepOf otherTable midNumber = .next midNumberNext :=
  ⟨midNumber_inv, midNumber_steps, otherTable_admissible, by unfold InvOf; decide +kernel, next_of_after (by decide +kernel)⟩

/-- Good states with output waiting on SO and PO. -/
def withOutput : State := { midNumber with so := [0x39], po := [⟨0, 0⟩] }

theorem withOutput_inv : Inv withOutput := by unfold Safety.Inv InvOf; decide +kernel

theorem witness_HostMovesKeepTheInvariant :
    Inv withOutput ∧ [HostMove.present ⟨14, 0, 0⟩, .withdraw, .appendChar 0x20, .appendSIEnd, .appendPoint ⟨0, 0⟩, .appendPIEnd,
      .takeSO, .takePO, .setSOReady false, .setPOReady false, .readStatus, .assertReset, .releaseReset].all
        (fun m => (hostMove m withOutput).isSome) = true :=
  ⟨withOutput_inv, by decide +kernel⟩

theorem witness_NoStepIsRefused : Inv midNumber ∧ PortAllowed { midNumber with port := some ⟨3, 5, 0⟩ } ∧
    Inv { midNumber with port := some ⟨3, 5, 0⟩ } := by
  refine ⟨midNumber_inv, ?_, by unfold Safety.Inv InvOf; decide +kernel⟩
  rintro c ⟨⟩ _
  decide +kernel

/-- A state that waits for a character. -/
theorem witness_NoStepIsRefused_waits :
    (Safety.Inv { inState .dProbe with cnt := 1 } ∧ { inState .dProbe with cnt := 1 }.rst = false ∧
      { inState .dProbe with cnt := 1 }.busy = true ∧ { inState .dProbe with cnt := 1 }.waits = true) ∧
    (Safety.Inv midNumber ∧ midNumber.rst = false ∧ midNumber.busy = true ∧ midNumber.waits = false) :=
  ⟨⟨by unfold Safety.Inv InvOf; decide +kernel, by decide +kernel⟩, midNumber_inv, by decide +kernel⟩

/-- A DECODE waits, the host sends `END`, the FSM ends the pass and idles. -/
def fairRun : Run where
  state
    | 0 => inState .dNext
    | 1 => withText (inState .dNext) []
    | _ + 2 => { State.reset with doneFlag := true }
  event
    | 0 => .host .appendSIEnd
    | _ + 1 => .fsm

theorem fairRun_valid : fairRun.Valid otherTable
  | 0 => show hostMove .appendSIEnd (inState .dNext) = some (withText (inState .dNext) []) by decide +kernel
  | 1 => next_of_after (by decide +kernel)
  | _ + 2 =>
    show stepOf otherTable { State.reset with doneFlag := true } = .next { State.reset with doneFlag := true } from
      next_of_after (by decide +kernel)

theorem fairRun_hostFair : fairRun.HostFair where
  endOfText n h := by
    match n with
    | 0 => exact ⟨1, by omega, .inl (by decide +kernel)⟩
    | 1 => exact ⟨1, le_rfl, .inl (by decide +kernel)⟩
    | _ + 2 => cases h
  endOfPoints n h := by
    match n with
    | 0 => cases h
    | 1 => cases h
    | _ + 2 => cases h
  acceptsCharacters n h := by
    match n with
    | 0 => cases h
    | 1 => cases h
    | _ + 2 => cases h
  acceptsPoints n h := by
    match n with
    | 0 => cases h
    | 1 => cases h
    | _ + 2 => cases h
  takesCharacters n h := by
    match n with
    | 0 => exact absurd rfl h
    | 1 => exact absurd rfl h
    | _ + 2 => exact absurd rfl h
  takesPoints n h := by
    match n with
    | 0 => exact absurd rfl h
    | 1 => exact absurd rfl h
    | _ + 2 => exact absurd rfl h

theorem witness_NoStepIsRefused_fair :
    Config.Admissible otherTable ∧ fairRun.Valid otherTable ∧ fairRun.FsmFair ∧ fairRun.HostFair ∧
      InvOf otherTable (fairRun.state 0) ∧ (fairRun.state 0).rst = false ∧ (fairRun.state 0).busy = true :=
  ⟨otherTable_admissible, fairRun_valid, fun n => ⟨n + 1, by omega, rfl⟩, fairRun_hostFair,
    by unfold InvOf; decide +kernel, by decide +kernel⟩

/-- `END` while the second of four more symbols is due. -/
def cutNumber : State := { midNumber with si := textItems [], num := 41, cnt := 3, cur := 2 }

/-- The state the exception leaves. -/
def cutNumberRaised : State :=
  { cutNumber with err := .bufferExhausted, doneFlag := true, si := [], st := .idle }

theorem cutNumber_inv : Inv cutNumber := by unfold Safety.Inv InvOf; decide +kernel

theorem cutNumber_steps : step cutNumber = .next cutNumberRaised := next_of_after (by decide +kernel)

theorem witness_ExceptionIsTakenExactlyAtEnd :
    (Inv cutNumber ∧ cutNumber.rst = false ∧ cutNumber.si = .endTok :: [] ∧ cutNumber.st = .dExtra) ∧
      step cutNumber = .next cutNumberRaised ∧ cutNumber.err = .none ∧ cutNumberRaised.err = .bufferExhausted :=
  ⟨⟨cutNumber_inv, by decide +kernel⟩, cutNumber_steps, by decide +kernel⟩

/-- A probe and a unit read at `END`: the other places where the exception is taken. -/
theorem witness_ExceptionIsTakenExactlyAtEnd_places :
    (Inv { withText (inState .dProbe) [] with cnt := 1 } ∧ { withText (inState .dProbe) [] with cnt := 1 }.st = .dProbe) ∧
    (Inv { withText (inUnit 3 5 0 .read) [] with cnt := 5 } ∧
      { withText (inUnit 3 5 0 .read) [] with cnt := 5 }.unitReads = true) := by
  refine ⟨⟨by unfold Safety.Inv InvOf; decide +kernel, rfl⟩, by unfold Safety.Inv InvOf; decide +kernel, by decide +kernel⟩

/-- A pop of SI, a pop of PI, a push on SO and a push on PO, each in a good state. -/
theorem witness_HandshakesTellTheStreams :
    (Inv midNumber ∧ midNumber.rst = false ∧ step midNumber = .next midNumberNext ∧ (outputs midNumber).siReady = true) ∧
    (Inv (beforePoint 0 0) ∧ (outputs (beforePoint 0 0)).piReady = true) ∧
    (Inv { inState .eShX with ocnt := 1 } ∧ (outputs { inState .eShX with ocnt := 1 }).soValid = true) ∧
    (Inv { inState .dEmit with axis := .y } ∧ (outputs { inState .dEmit with axis := .y }).poValid = true) := by
  refine ⟨⟨midNumber_inv, rfl, midNumber_steps, by decide +kernel⟩, ⟨?_, by decide +kernel⟩, ⟨?_, by decide +kernel⟩, ?_,
    by decide +kernel⟩ <;> unfold Safety.Inv InvOf <;> decide +kernel

/-- A step that pops, and one that removes `END` without counting it. -/
theorem witness_CursorCountsPops :
    (Inv midNumber ∧ midNumber.rst = false ∧ midNumber.st ≠ .idle ∧ step midNumber = .next midNumberNext) ∧
    (Inv cutNumber ∧ cutNumber.rst = false ∧ cutNumber.st ≠ .idle ∧ step cutNumber = .next cutNumberRaised) :=
  ⟨⟨midNumber_inv, rfl, by decide +kernel, midNumber_steps⟩, cutNumber_inv, rfl, by decide +kernel, cutNumber_steps⟩

/-- Two states of a pass that differ in `RES`, ENCODE's latches, the latched command and SO only. -/
theorem witness_DecodeSeesOnlyItsOwnState :
    InDecode midNumber ∧ midNumber ≠ { midNumber with res := 5, fx := 6, cmd := ⟨3, 1, 1⟩, so := [0x30] } ∧
      decodeView midNumber = decodeView { midNumber with res := 5, fx := 6, cmd := ⟨3, 1, 1⟩, so := [0x30] } ∧
      step midNumber = .next midNumberNext :=
  ⟨.inr (.inr (.inl rfl)), by decide +kernel, rfl, midNumber_steps⟩

end Tests
end Sys2Proof
end

section
/-! PROOF. The encodings of the number forms (spec/30_encoding.md R52 to R56). First what the encoder's words and their symbols
are as numbers, over every table; then what the decoder's form test and operand assembly give; last the statements of the
encoding family, each a short use of these. -/

namespace Sys2Proof

/-! ## The symbols of a word, as numbers -/

/-- Six bits of a word are an index, read off by division (R38). -/
theorem extractSymbol_eq {n : Nat} (w : BitVec n) (k : Nat) : w.extractLsb' k 6 = BitVec.ofNat 6 (w.toNat / 2 ^ k) := by
  rw [BitVec.extractLsb', Nat.shiftRight_eq_div_pow]

/-- An index depends only on its number modulo 64, the number of symbols (R70). -/
theorem index_eq_of_mod_eq {a b : Nat} (h : a % 64 = b % 64) : BitVec.ofNat 6 a = BitVec.ofNat 6 b :=
  BitVec.eq_of_toNat_eq (by simpa using h)

/-! ## The words of the number forms, as numbers -/

/-- A field holds an integer of its range exactly. -/
theorem toNat_ofInt_of_bounds {n : Nat} {x : Int} (h0 : 0 ≤ x) (h1 : x < 2 ^ n) :
    (BitVec.ofInt n x).toNat = x.toNat := by
  rw [BitVec.toNat_ofInt, Int.emod_eq_of_lt h0 (by exact_mod_cast h1)]

/-- The field of ADDS is the biased delta (R52). -/
theorem smallField_toNat {d : Int} (h0 : -1024 ≤ d) (h1 : d ≤ 1023) :
    (BitVec.ofInt 11 (d + Config.smallBias)).toNat = (d + 1024).toNat :=
  toNat_ofInt_of_bounds (by simp only [Config.smallBias]; omega) (by simp only [Config.smallBias]; omega)

/-- The field of ADDM is the biased delta (R53). -/
theorem mediumField_toNat {d : Int} (h0 : -32768 ≤ d) (h1 : d ≤ 32767) :
    (BitVec.ofInt 16 (d + Config.medBias)).toNat = (d + 32768).toNat :=
  toNat_ofInt_of_bounds (by simp only [Config.medBias]; omega) (by simp only [Config.medBias]; omega)

/-- A marker above a field adds its own value above the field's bits. -/
theorem toNat_marker_append {m n : Nat} (a : BitVec m) (b : BitVec n) : (a ++ b).toNat = a.toNat * 2 ^ n + b.toNat := by
  rw [BitVec.toNat_append, Nat.shiftLeft_eq, Nat.mul_comm, Nat.two_pow_add_eq_or_of_lt b.isLt]

/-- The marker of ADDS adds nothing (R52). -/
theorem wordS2_toNat {d : Int} (h0 : -1024 ≤ d) (h1 : d ≤ 1023) : (wordS2 d).toNat = (d + 1024).toNat := by
  rw [wordS2, toNat_marker_append, smallField_toNat h0 h1]
  simp

/-- The marker of ADDM is bit 17 (R53). -/
theorem wordM3_toNat {d : Int} (h0 : -32768 ≤ d) (h1 : d ≤ 32767) :
    (wordM3 d).toNat = 2 ^ 17 + (d + 32768).toNat := by
  rw [wordM3, toNat_marker_append, mediumField_toNat h0 h1]
  rfl

/-- The marker of SETF is bits 29 and 28 (R54). -/
theorem wordF5_toNat (v : BitVec 28) : (wordF5 v).toNat = 3 * 2 ^ 28 + v.toNat := toNat_marker_append 0b11#2 v

/-! ## The texts of the number forms, over every table -/

/-- ADDS is written in two symbols, the first carrying the upper bits of the biased delta (R52). -/
theorem encodeOf_adds (tab : Config.Table) {d : Int} (h0 : -1024 ≤ d) (h1 : d ≤ 1023) {b : Nat} (hb : (b : Int) = d + 1024) :
    encodeOf tab (.adds d) = .text [romOf tab (BitVec.ofNat 6 (b / 64)), romOf tab (BitVec.ofNat 6 (b % 64))] := by
  have hw : (wordS2 d).toNat = b := by rw [wordS2_toNat h0 h1]; omega
  have low : BitVec.ofNat 6 (b / 2 ^ 0) = BitVec.ofNat 6 (b % 64) := index_eq_of_mod_eq (by omega)
  have lead : BitVec.ofNat 6 (b / 2 ^ 6) = BitVec.ofNat 6 (b / 64) := rfl
  simp only [encodeOf, symbols2, extractSymbol_eq, hw, lead, low]

/-- ADDM is written in three symbols, the first carrying THREE_MARK and the upper bits of the biased delta (R53). -/
theorem encodeOf_addm (tab : Config.Table) {d : Int} (h0 : -32768 ≤ d) (h1 : d ≤ 32767) {b : Nat}
    (hb : (b : Int) = d + 32768) :
    encodeOf tab (.addm d) = .text [romOf tab (BitVec.ofNat 6 (32 + b / 4096)), romOf tab (BitVec.ofNat 6 (b / 64 % 64)),
      romOf tab (BitVec.ofNat 6 (b % 64))] := by
  have hw : (wordM3 d).toNat = 2 ^ 17 + b := by rw [wordM3_toNat h0 h1]; omega
  have lead : BitVec.ofNat 6 ((2 ^ 17 + b) / 2 ^ 12) = BitVec.ofNat 6 (32 + b / 4096) := index_eq_of_mod_eq (by omega)
  have middle : BitVec.ofNat 6 ((2 ^ 17 + b) / 2 ^ 6) = BitVec.ofNat 6 (b / 64 % 64) := index_eq_of_mod_eq (by omega)
  have low : BitVec.ofNat 6 ((2 ^ 17 + b) / 2 ^ 0) = BitVec.ofNat 6 (b % 64) := index_eq_of_mod_eq (by omega)
  simp only [encodeOf, symbols3, extractSymbol_eq, hw, lead, middle, low]

/-- The marker of SETF is above every symbol but the first: the lower four carry the value's groups of six bits (R54). -/
theorem wordF5_lowSymbol (v : BitVec 28) {k : Nat} (hk : k + 6 ≤ 28) :
    (wordF5 v).extractLsb' k 6 = BitVec.ofNat 6 (v.toNat / 2 ^ k % 64) := by
  rw [wordF5, BitVec.extractLsb'_append_eq_of_add_le hk, extractSymbol_eq]
  exact index_eq_of_mod_eq (Nat.mod_mod _ _).symm

/-- SETF is written in five symbols, the first carrying FIVE_MARK and the upper bits of the value (R54). -/
theorem encodeOf_setf (tab : Config.Table) (v : BitVec 28) :
    encodeOf tab (.setf v) = .text [romOf tab (BitVec.ofNat 6 (48 + v.toNat / 2 ^ 24)),
      romOf tab (BitVec.ofNat 6 (v.toNat / 2 ^ 18 % 64)), romOf tab (BitVec.ofNat 6 (v.toNat / 2 ^ 12 % 64)),
      romOf tab (BitVec.ofNat 6 (v.toNat / 2 ^ 6 % 64)), romOf tab (BitVec.ofNat 6 (v.toNat % 64))] := by
  have lead : (wordF5 v).extractLsb' 24 6 = BitVec.ofNat 6 (48 + v.toNat / 2 ^ 24) := by
    rw [extractSymbol_eq, wordF5_toNat]
    exact index_eq_of_mod_eq (by omega)
  have low : (wordF5 v).extractLsb' 0 6 = BitVec.ofNat 6 (v.toNat % 64) := by
    simpa using wordF5_lowSymbol v (k := 0) (by decide)
  simp only [encodeOf, symbols5, lead, low, wordF5_lowSymbol v (show 18 + 6 ≤ 28 by decide),
    wordF5_lowSymbol v (show 12 + 6 ≤ 28 by decide), wordF5_lowSymbol v (show 6 + 6 ≤ 28 by decide)]

/-! ## The form test of the leading symbol -/

/-- FIVE_MARK is tested first (R56). -/
theorem tierOf_of_fiveMark {p : Index} (h5 : p &&& 0x30 = 0x30) : tierOf p = .full := if_pos h5

/-- THREE_MARK is tested where FIVE_MARK is not set (R56). -/
theorem tierOf_of_threeMark {p : Index} (h5 : p &&& 0x30 ≠ 0x30) (h3 : p &&& 0x20 = 0x20) : tierOf p = .medium :=
  (if_neg h5).trans (if_pos h3)

/-- A leading symbol with neither mark is of the small form (R56). -/
theorem tierOf_of_noMark {p : Index} (h5 : p &&& 0x30 ≠ 0x30) (h3 : p &&& 0x20 ≠ 0x20) : tierOf p = .small :=
  (if_neg h5).trans (if_neg h3)

/-! ## Operand assembly -/

/-- A mask of ones takes the remainder: the bits of the leading symbol below the marker (R55). -/
theorem toNat_and_mask (p : Index) {k : Nat} (hk : k ≤ 6) :
    (p &&& BitVec.ofNat 6 (2 ^ k - 1)).toNat = p.toNat % 2 ^ k := by
  have hlt : 2 ^ k - 1 < 2 ^ 6 := by
    have := Nat.pow_le_pow_right (show 0 < 2 by decide) hk
    omega
  rw [BitVec.toNat_and, BitVec.toNat_ofNat, Nat.mod_eq_of_lt hlt, Nat.and_two_pow_sub_one_eq_mod]

/-- The fields of the leading symbol and of the other symbols do not overlap, so that joining them by OR adds them (R55). -/
theorem toNat_joinFields (a : Index) (e : Word32) {k : Nat} (hk : k + 6 ≤ 32) (he : e.toNat < 2 ^ k) :
    ((a.setWidth 32 <<< k) ||| (e.setWidth k).setWidth 32).toNat = a.toNat * 2 ^ k + e.toNat := by
  have hfit : a.toNat * 2 ^ k < 2 ^ 32 := calc
    a.toNat * 2 ^ k < 2 ^ 6 * 2 ^ k := Nat.mul_lt_mul_of_pos_right a.isLt (Nat.two_pow_pos k)
    _ = 2 ^ (k + 6) := by rw [Nat.add_comm, Nat.pow_add]
    _ ≤ 2 ^ 32 := Nat.pow_le_pow_right (by decide) hk
  have hhigh : (a.setWidth 32 <<< k).toNat = 2 ^ k * a.toNat := by
    rw [BitVec.toNat_shiftLeft, BitVec.toNat_setWidth_of_le (by decide), Nat.shiftLeft_eq, Nat.mod_eq_of_lt hfit, Nat.mul_comm]
  have hlow : ((e.setWidth k).setWidth 32).toNat = e.toNat := by
    rw [BitVec.toNat_setWidth_of_le (by omega), BitVec.toNat_setWidth, Nat.mod_eq_of_lt he]
  rw [BitVec.toNat_or, hhigh, hlow, ← Nat.two_pow_add_eq_or_of_lt he, Nat.mul_comm]

/-- The field of ADDS: five bits of the leading symbol above one symbol (R55). -/
theorem rawField_small_toNat (p : Index) {e : Word32} (he : e.toNat < 2 ^ 6) :
    (rawField .small p e).toNat = p.toNat % 32 * 64 + e.toNat := by
  rw [rawField, toNat_joinFields _ _ (by decide) he]
  exact congrArg (· * 64 + e.toNat) (toNat_and_mask p (k := 5) (by decide))

/-- The field of ADDM: four bits of the leading symbol above two symbols (R55). -/
theorem rawField_medium_toNat (p : Index) {e : Word32} (he : e.toNat < 2 ^ 12) :
    (rawField .medium p e).toNat = p.toNat % 16 * 4096 + e.toNat := by
  rw [rawField, toNat_joinFields _ _ (by decide) he]
  exact congrArg (· * 4096 + e.toNat) (toNat_and_mask p (k := 4) (by decide))

/-- The value of SETF: four bits of the leading symbol above four symbols (R55). -/
theorem rawField_full_toNat (p : Index) {e : Word32} (he : e.toNat < 2 ^ 24) :
    (rawField .full p e).toNat = p.toNat % 16 * 2 ^ 24 + e.toNat := by
  rw [rawField, toNat_joinFields _ _ (by decide) he]
  exact congrArg (· * 2 ^ 24 + e.toNat) (toNat_and_mask p (k := 4) (by decide))

/-! ## The statements of the encoding family -/

/-- Settles O8: the number of each form's field (`rawField_small_toNat`, `rawField_medium_toNat`, `rawField_full_toNat`) with the
bias taken off. -/
theorem operandAssembly : Obligations.OperandAssembly := by
  intro p e
  refine ⟨fun he => ?small, fun he => ?medium, fun he => ?full⟩
  case small =>
    simp only [formOf, rawField_small_toNat p he, Config.smallBias]
    exact ⟨_, rfl, rfl, by omega, by omega⟩
  case medium =>
    simp only [formOf, rawField_medium_toNat p he, Config.medBias]
    exact ⟨_, rfl, rfl, by omega, by omega⟩
  case full =>
    have hv : ((rawField .full p e).setWidth 28).toNat = p.toNat % 16 * 2 ^ 24 + e.toNat := by
      rw [BitVec.toNat_setWidth, rawField_full_toNat p he]
      omega
    exact ⟨_, rfl, hv, fun hp => by rw [hv]; omega⟩

/-- Settles O4: the word is the marker bit above the biased delta (`wordS2`), its text is `encodeOf_adds`. -/
theorem smallFormLayout : Obligations.SmallFormLayout := by
  intro d h0 h1
  have hb : ((d + 1024).toNat : Int) = d + 1024 := by omega
  have marker : (wordS2 d).getLsbD 11 = false := by rw [wordS2, BitVec.getLsbD_append]; rfl
  have field : ((wordS2 d).extractLsb' 0 11).toNat = (d + 1024).toNat := by
    rw [wordS2, BitVec.extractLsb'_append_eq_right, smallField_toNat h0 h1]
  exact ⟨_, hb, by omega, marker, field, by omega, encodeOf_adds Config.alphabet h0 h1 hb⟩

/-- Settles O5: the word is the marker above the biased delta (`wordM3`), its text is `encodeOf_addm`. -/
theorem mediumFormLayout : Obligations.MediumFormLayout := by
  intro d h0 h1
  have hb : ((d + 32768).toNat : Int) = d + 32768 := by omega
  have marker : (wordM3 d).extractLsb' 16 2 = 0b10#2 := BitVec.extractLsb'_append_eq_left
  have field : ((wordM3 d).extractLsb' 0 16).toNat = (d + 32768).toNat := by
    rw [wordM3, BitVec.extractLsb'_append_eq_right, mediumField_toNat h0 h1]
  exact ⟨_, hb, by omega, marker, field, by omega, encodeOf_addm Config.alphabet h0 h1 hb⟩

/-- Settles O6: the word is the marker above the value (`wordF5`), its text is `encodeOf_setf`. -/
theorem fullFormLayout : Obligations.FullFormLayout := fun v =>
  ⟨BitVec.extractLsb'_append_eq_left, BitVec.extractLsb'_append_eq_right, by omega, encodeOf_setf Config.alphabet v⟩

/-- Settles O7: each branch of the test (`tierOf_of_fiveMark`, `tierOf_of_threeMark`, `tierOf_of_noMark`) names one form, and the
form has one length. -/
theorem leadingSymbolDecidesTheForm : Obligations.LeadingSymbolDecidesTheForm := by
  intro p
  refine ⟨fun h5 => ?five, fun h5 h3 => ?three, fun h5 h3 => ?neither⟩
  case five => rw [tierOf_of_fiveMark h5]; exact ⟨rfl, rfl⟩
  case three => rw [tierOf_of_threeMark h5 h3]; exact ⟨rfl, rfl⟩
  case neither => rw [tierOf_of_noMark h5 h3]; exact ⟨rfl, rfl⟩

end Sys2Proof
end

section
/-! PROOF. The symbol codec (spec/40_symbol_rom.md R75 to R78). First the bits of a ROM character and the characters the reverse
table cannot find, over every table; then what SYMOF and IDXOF do in `UNIT`; last the statements of the symbol family, each a
short use of these. This machine is the case of its own table (`execOf_alphabet`). -/

namespace Sys2Proof

/-! ## The ROM and its reverse, over every table -/

/-- Bit 7 of an ASCII code taken as a character is zero (R75). -/
theorem ascii_extend_bit7 (a : Ascii) : (0#1 ++ a : BitVec 8).getLsbD 7 = false := by
  rw [BitVec.getLsbD_append]; rfl

/-- Bits 6:0 of an ASCII code taken as a character are the code (R75). -/
theorem ascii_extend_setWidth (a : Ascii) : (0#1 ++ a : BitVec 8).setWidth 7 = a :=
  BitVec.setWidth_append_eq_right

/-- A ROM character has bit 7 zero (R75). -/
theorem romOf_bit7 (tab : Config.Table) (i : Index) : (romOf tab i).getLsbD 7 = false := ascii_extend_bit7 _

/-- Bits 6:0 of a ROM character are the table's entry, over every table of 64 entries (R75). -/
theorem getElem?_eq_romOf {tab : Config.Table} (hl : tab.length = 64) (i : Index) :
    tab[i.toNat]? = some ((romOf tab i).setWidth 7) := by
  have hi : i.toNat < tab.length := by omega
  rw [romOf, ascii_extend_setWidth, List.getD_eq_getElem _ _ hi, List.getElem?_eq_getElem hi]

/-- The reverse table inverts the ROM, over every table of 64 distinct entries (R76). -/
theorem revOf_eq_some_iff {tab : Config.Table} (hl : tab.length = 64) (hd : tab.Nodup) (c : Char8) (i : Index) :
    revOf tab c = some i ↔ romOf tab i = c := by
  constructor
  · exact romOf_of_revOf hl
  · rintro rfl
    exact revOf_romOf hl hd i

/-- A character with bit 7 set is no entry's character, so it is not found, over every table (R76). -/
theorem revOf_eq_none_of_bit7 (tab : Config.Table) {c : Char8} (hc : c.getLsbD 7 = true) : revOf tab c = none := by
  rw [← isFillerOf_iff_revOf_none, isFillerOf, List.all_eq_true]
  rintro a -
  rw [bne_iff_ne]
  rintro rfl
  rw [ascii_extend_bit7] at hc
  cases hc

/-- The characters 128 to 255 are those with bit 7 set. -/
theorem bit7_of_le {c : Char8} (hc : 0x80#8 ≤ c) : c.getLsbD 7 = true := by
  rw [← BitVec.msb_eq_getLsbD_last, BitVec.msb_eq_decide]
  simpa [BitVec.le_def] using hc

namespace Machine

/-! ## SYMOF and IDXOF in `UNIT`, over every table -/

/-- SYMOF returns the ROM's character and ends the command (R77). -/
theorem execOf_symof_unit (tab : Config.Table) (i : Index) {s : State} (h : s.st = .unit) :
    execOf tab (.symof i) s = .next (s.setResult ((romOf tab i).setWidth 64)).endCommand := by
  change execSymofOf tab i s = _
  rw [execSymofOf, unitCommand_unit h]

/-- IDXOF looks the character up and ends the command (R78). -/
theorem execOf_idxof_unit (tab : Config.Table) (c : Char8) {s : State} (h : s.st = .unit) :
    execOf tab (.idxof c) s = .next (lookupResult tab c s).endCommand := by
  change execIdxofOf tab c s = _
  rw [execIdxofOf, unitCommand_unit h]

/-- A found character's result is its index, marked valid (R78). -/
theorem lookupResult_of_some {tab : Config.Table} {c : Char8} {i : Index} (h : revOf tab c = some i) (s : State) :
    lookupResult tab c s = s.setResult (i.setWidth 64) := by
  rw [lookupResult, h]

/-- NOT_FOUND is the result 0, marked invalid (R76, R78). -/
theorem lookupResult_of_none {tab : Config.Table} {c : Char8} (h : revOf tab c = none) (s : State) :
    lookupResult tab c s = { s with res := 0, resv := false } := by
  rw [lookupResult, h]

/-- IDXOF's whole effect in `UNIT`, for a character that is found and for one that is not (R78). -/
theorem execOf_idxof_effect (tab : Config.Table) (c : Char8) (s : State) (h : s.st = .unit) :
    (∀ i, revOf tab c = some i →
      execOf tab (.idxof c) s = .next { s with res := i.setWidth 64, resv := true, doneFlag := true, st := .idle,
                                               upos := .entry }) ∧
    (revOf tab c = none →
      execOf tab (.idxof c) s = .next { s with res := 0, resv := false, doneFlag := true, st := .idle, upos := .entry }) := by
  rw [execOf_idxof_unit tab c h]
  constructor
  · intro i hfound
    rw [lookupResult_of_some hfound]
    rfl
  · intro hnone
    rw [lookupResult_of_none hnone]
    rfl

end Machine

/-! ## The statements of the symbol family -/

/-- Settles O2: the two directions of `revOf_eq_some_iff`, and bit 7 keeps a character out (`revOf_eq_none_of_bit7`). -/
theorem reverseTableInvertsTheRom : Obligations.ReverseTableInvertsTheRom := fun tab hl hd c =>
  ⟨revOf_eq_some_iff hl hd c, revOf_eq_none_of_bit7 tab⟩

/-- Settles O1: the bits of a ROM character (`romOf_bit7`, `getElem?_eq_romOf`), for this machine's table and for any other. -/
theorem romReadsTheAlphabet : Obligations.RomReadsTheAlphabet :=
  ⟨fun i => ⟨romOf_bit7 Config.alphabet i, getElem?_eq_romOf rfl i⟩, fun tab hl i => ⟨romOf_bit7 tab i, getElem?_eq_romOf hl i⟩⟩

/-- Settles O19: the effect over any table is `execOf_symof_unit`; this machine's is the case of its own table. -/
theorem symofReturnsTheCharacter : Obligations.SymofReturnsTheCharacter := by
  refine ⟨fun _ _ => rfl, fun i s h => ?machine, fun tab i _ h => Machine.execOf_symof_unit tab i h, rfl, rfl, rfl⟩
  case machine =>
    rw [← Machine.execOf_alphabet]
    exact Machine.execOf_symof_unit Config.alphabet i h

/-- Settles O20: the effect over any table is `execOf_idxof_effect`; this machine's is the case of its own table, and its found
characters are the ROM's (`rev_rom`). -/
theorem idxofReturnsTheIndex : Obligations.IdxofReturnsTheIndex := by
  refine ⟨fun _ _ => rfl, fun c s h => ?machine, Machine.execOf_idxof_effect, rev_rom 0, ?filler, rev_rom 28, rev_rom 60,
    rev_rom 55, fun _ hc => revOf_eq_none_of_bit7 Config.alphabet (bit7_of_le hc)⟩
  case machine =>
    rw [← Machine.execOf_alphabet]
    exact Machine.execOf_idxof_effect Config.alphabet c s h
  case filler => exact (isFiller_iff_rev_none 0x20).mp (by decide)

end Sys2Proof
end

section
/-! PROOF. The number decoder (spec/41_number_decoder.md R80, R81). First what a filler does to RDNUM's loop on a stream, over
every table, and to a state in which a reader meets it; last the statement of the family. -/

namespace Sys2Proof

namespace Machine

/-! ## A filler under a reader -/

/-- With a symbol still to read, RDNUM's loop counts a filler's pop and goes on as before (R81). -/
theorem rdnumLoop_filler {tab : Config.Table} {n : Nat} {c : Char8} (num : Word32) (pops : Nat) (rest : List (Item Char8))
    (hn : 0 < n) (hc : revOf tab c = none) :
    rdnumLoop tab n num pops (.data c :: rest) = rdnumLoop tab n num (pops + 1) rest := by
  cases n with
  | zero => exact absurd hn (Nat.lt_irrefl 0)
  | succ n => rw [rdnumLoop, hc]

/-- In each of the five places where a reader meets a filler, it is popped and nothing else happens (R81, R152, R153). -/
theorem consumeFiller_reading {s : State} {c : Char8} {rest : List (Item Char8)} (hsi : s.si = .data c :: rest)
    (hs : s.st = .dProbe ∨ s.st = .dExtra ∨ (s.st = .unit ∧ (s.upos = .read ∨ s.upos = .probe ∨ s.upos = .extra))) :
    consumeFiller s = .next (s.popSI rest) := by
  obtain hst | hst | ⟨hst, hu⟩ := hs
  · simp only [consumeFiller, hsi, hst]
  · simp only [consumeFiller, hsi, hst]
  · obtain hu | hu | hu := hu <;> simp only [consumeFiller, hsi, hst, hu]

/-- SKIP acts on the character at the head of SI, whatever its code (R87). -/
theorem exec_skip (c : Char8) (s : State) : exec (.skip c) s = consumeFiller s := rfl

end Machine

/-- A character that is not found, alone, decodes to SKIP in this machine (R58). -/
theorem decode_filler {c : Char8} (hc : rev c = none) : decode (.text [c]) = .ok (.skip c) :=
  congrArg Except.ok (charInstrOf_of_none hc)

/-! ## The statement of the number decoder family -/

/-- Settles O23: on a stream by `rdnumLoop_filler`, in a reading state by `consumeFiller_reading`; the rule's two examples are
runs of the loop. -/
theorem fillersCostOnePop : Obligations.FillersCostOnePop := by
  refine ⟨fun _ _ num pops _ rest => Machine.rdnumLoop_filler num pops rest, fun c rest s hc hsi hs => ?reading, rfl, rfl⟩
  case reading => exact ⟨decode_filler hc, (Machine.exec_skip c s).trans (Machine.consumeFiller_reading hsi hs)⟩

end Sys2Proof
end

section
/-! PROOF. The number encoder (spec/42_number_encoder.md R100 to R106). First the tier of each range of deltas and the symbols of
a left-aligned word; then that the word WRNUM loads is the number form's word of the spec, left-aligned, so that WRNUM pushes the
text of ADDS, ADDM or SETF; last the statements of the family, over every table. -/

namespace Sys2Proof

namespace Machine

/-! ## The tier of a delta -/

/-- The small tier, tested first (R105). -/
theorem tierOfDelta_small {d : Word32} (h0 : -1024 ≤ d.toInt) (h1 : d.toInt ≤ 1023) : tierOfDelta d = .small :=
  if_pos ⟨h0, by omega⟩

/-- The medium tier is what the small one leaves of the 16-bit range, -32768 in it (R105). -/
theorem tierOfDelta_medium {d : Word32} (h : (-32768 ≤ d.toInt ∧ d.toInt ≤ -1025) ∨ (1024 ≤ d.toInt ∧ d.toInt ≤ 32767)) :
    tierOfDelta d = .medium :=
  (if_neg (by omega)).trans (if_pos (by omega))

/-- The full tier is the rest (R105). -/
theorem tierOfDelta_full {d : Word32} (h : d.toInt ≤ -32769 ∨ 32768 ≤ d.toInt) : tierOfDelta d = .full :=
  (if_neg (by omega)).trans (if_neg (by omega))

/-! ## The symbols of a left-aligned word -/

/-- The count register holds every tier's number of symbols (R100). -/
theorem encoderCount_toNat (d : Word32) : (encoderCount d).toNat = (tierOfDelta d).extra + 1 := by
  have hle := (Tier.extra_le (tierOfDelta d)).2
  rw [encoderCount, BitVec.toNat_ofNat, Nat.mod_eq_of_lt (by omega)]

/-- One character a symbol (R104). -/
theorem emit_length (tab : Config.Table) (n : Nat) (w : BitVec 30) : (emit tab n w).length = n := by
  induction n generalizing w with
  | zero => rfl
  | succ n ih => rw [emit, List.length_cons, ih]

/-- WRNUM pushes as many characters as its tier has symbols (R105). -/
theorem wrnumText_length (tab : Config.Table) (d a : Word32) : (wrnumText tab d a).length = (tierOfDelta d).extra + 1 := by
  rw [wrnumText, emit_length, encoderCount_toNat]

/-- After a shift by `k` the top symbol, the next to go, is the one `k` bits further down the word (R104). -/
theorem topSymbol_shiftLeft (w : BitVec 30) {k : Nat} (hk : k ≤ 24) :
    (w <<< k).extractLsb' 24 6 = w.extractLsb' (24 - k) 6 := by
  apply BitVec.eq_of_getLsbD_eq
  intro i hi
  have hpos : 24 + i - k = 24 - k + i := by omega
  have hin : 24 + i < 30 ∧ ¬ 24 + i < k := by omega
  simp only [BitVec.getLsbD_extractLsb', BitVec.getLsbD_shiftLeft, hi, hin, hpos, decide_true, decide_false,
    Bool.not_false, Bool.true_and]

/-- Five symbols are the whole word (R103). -/
theorem emit_five (tab : Config.Table) (w : BitVec 30) : emit tab 5 w = symbols5 tab w := by
  simp (disch := decide) only [emit, ← BitVec.shiftLeft_add, nextIndex, topSymbol_shiftLeft]
  rfl

/-- Two symbols, the first two of five, are the upper 12 bits of the word (R101). -/
theorem emit_two (tab : Config.Table) (w : BitVec 12) : emit tab 2 (w ++ 0#18) = symbols2 tab w := calc
  emit tab 2 (w ++ 0#18) = (symbols5 tab (w ++ 0#18)).take 2 := congrArg (List.take 2) (emit_five tab _)
  _ = symbols2 tab w := by
    simp (disch := decide) only [symbols5, List.take, BitVec.extractLsb'_append_eq_of_le]
    rfl

/-- Three symbols, the first three of five, are the upper 18 bits of the word (R102). -/
theorem emit_three (tab : Config.Table) (w : BitVec 18) : emit tab 3 (w ++ 0#12) = symbols3 tab w := calc
  emit tab 3 (w ++ 0#12) = (symbols5 tab (w ++ 0#12)).take 3 := congrArg (List.take 3) (emit_five tab _)
  _ = symbols3 tab w := by
    simp (disch := decide) only [symbols5, List.take, BitVec.extractLsb'_append_eq_of_le]
    rfl

/-! ## The loaded word is the number form's word -/

/-- A field of `k` bits under a marker is joined by OR as it is by addition. -/
theorem toNat_marker_or {n k : Nat} (m x : BitVec n) {a : Nat} (hm : m.toNat = a * 2 ^ k) (hx : x.toNat < 2 ^ k) :
    (m ||| x).toNat = a * 2 ^ k + x.toNat := by
  rw [BitVec.toNat_or, hm, Nat.mul_comm, Nat.two_pow_add_eq_or_of_lt hx]

/-- A small delta loads the word of ADDS (R101). -/
theorem encoderWord_small {d : Word32} (a : Word32) (h0 : -1024 ≤ d.toInt) (h1 : d.toInt ≤ 1023) :
    encoderWord d a = wordS2 d.toInt ++ 0#18 := by
  rw [encoderWord, tierOfDelta_small h0 h1]
  have field : (BitVec.ofInt 30 (d.toInt + Config.smallBias)).toNat = (d.toInt + 1024).toNat :=
    toNat_ofInt_of_bounds (by simp only [Config.smallBias]; omega) (by simp only [Config.smallBias]; omega)
  apply BitVec.eq_of_toNat_eq
  rw [toNat_marker_append, wordS2_toNat h0 h1, BitVec.toNat_shiftLeft, field, Nat.shiftLeft_eq,
    Nat.mod_eq_of_lt (by omega), BitVec.toNat_zero, Nat.add_zero]

/-- A medium delta loads the word of ADDM, its marker joined by OR (R102). -/
theorem encoderWord_medium {d : Word32} (a : Word32)
    (h : (-32768 ≤ d.toInt ∧ d.toInt ≤ -1025) ∨ (1024 ≤ d.toInt ∧ d.toInt ≤ 32767)) :
    encoderWord d a = wordM3 d.toInt ++ 0#12 := by
  rw [encoderWord, tierOfDelta_medium h]
  have field : (BitVec.ofInt 30 (d.toInt + Config.medBias)).toNat = (d.toInt + 32768).toNat :=
    toNat_ofInt_of_bounds (by simp only [Config.medBias]; omega) (by simp only [Config.medBias]; omega)
  apply BitVec.eq_of_toNat_eq
  rw [toNat_marker_append, wordM3_toNat (by omega) (by omega), BitVec.toNat_shiftLeft,
    toNat_marker_or (k := 17) (a := 1) _ _ rfl (by omega), field, Nat.shiftLeft_eq, Nat.mod_eq_of_lt (by omega),
    Nat.one_mul, BitVec.toNat_zero, Nat.add_zero]

/-- The low 28 bits of the absolute value (R103). -/
theorem toNat_and_fullMask (a : Word32) : (a &&& Config.fullMask).toNat = a.toNat % 2 ^ 28 := by
  rw [BitVec.toNat_and]
  exact Nat.and_two_pow_sub_one_eq_mod _ 28

/-- A large delta loads the word of SETF with the low 28 bits of the absolute value (R103). -/
theorem encoderWord_full {d : Word32} (a : Word32) (h : d.toInt ≤ -32769 ∨ 32768 ≤ d.toInt) :
    encoderWord d a = wordF5 (a.setWidth 28) := by
  rw [encoderWord, tierOfDelta_full h]
  have field : ((a &&& Config.fullMask).setWidth 30).toNat = a.toNat % 2 ^ 28 := by
    rw [BitVec.toNat_setWidth, toNat_and_fullMask]
    omega
  apply BitVec.eq_of_toNat_eq
  rw [wordF5_toNat, BitVec.toNat_setWidth, toNat_marker_or (k := 28) (a := 3) _ _ rfl (by omega), field]

/-! ## The characters of each tier -/

/-- In the small tier WRNUM pushes the text of ADDS (R101). -/
theorem wrnumText_small (tab : Config.Table) {d : Word32} (a : Word32) (h0 : -1024 ≤ d.toInt) (h1 : d.toInt ≤ 1023) :
    .text (wrnumText tab d a) = encodeOf tab (.adds d.toInt) := by
  rw [wrnumText, encoderCount_toNat, tierOfDelta_small h0 h1, encoderWord_small a h0 h1]
  exact congrArg _ (emit_two tab _)

/-- In the medium tier WRNUM pushes the text of ADDM (R102). -/
theorem wrnumText_medium (tab : Config.Table) {d : Word32} (a : Word32)
    (h : (-32768 ≤ d.toInt ∧ d.toInt ≤ -1025) ∨ (1024 ≤ d.toInt ∧ d.toInt ≤ 32767)) :
    .text (wrnumText tab d a) = encodeOf tab (.addm d.toInt) := by
  rw [wrnumText, encoderCount_toNat, tierOfDelta_medium h, encoderWord_medium a h]
  exact congrArg _ (emit_three tab _)

/-- In the full tier WRNUM pushes the text of SETF with the low 28 bits of the absolute value (R103). -/
theorem wrnumText_full (tab : Config.Table) {d : Word32} (a : Word32) (h : d.toInt ≤ -32769 ∨ 32768 ≤ d.toInt) :
    .text (wrnumText tab d a) = encodeOf tab (.setf (a.setWidth 28)) := by
  rw [wrnumText, encoderCount_toNat, tierOfDelta_full h, encoderWord_full a h]
  exact congrArg _ (emit_five tab _)

/-- The two symbols of a small delta (R101). -/
theorem wrnumText_small_symbols (tab : Config.Table) {d : Word32} (a : Word32) (h0 : -1024 ≤ d.toInt) (h1 : d.toInt ≤ 1023)
    {b : Nat} (hb : (b : Int) = d.toInt + 1024) :
    wrnumText tab d a = [romOf tab (BitVec.ofNat 6 (b / 64)), romOf tab (BitVec.ofNat 6 (b % 64))] :=
  Words.text.inj ((wrnumText_small tab a h0 h1).trans (encodeOf_adds tab h0 h1 hb))

/-- The three symbols of a medium delta (R102). -/
theorem wrnumText_medium_symbols (tab : Config.Table) {d : Word32} (a : Word32)
    (h : (-32768 ≤ d.toInt ∧ d.toInt ≤ -1025) ∨ (1024 ≤ d.toInt ∧ d.toInt ≤ 32767)) {b : Nat}
    (hb : (b : Int) = d.toInt + 32768) :
    wrnumText tab d a = [romOf tab (BitVec.ofNat 6 (32 + b / 4096)), romOf tab (BitVec.ofNat 6 (b / 64 % 64)),
      romOf tab (BitVec.ofNat 6 (b % 64))] :=
  Words.text.inj ((wrnumText_medium tab a h).trans (encodeOf_addm tab (by omega) (by omega) hb))

end Machine

/-! ## The statements of the number encoder family -/

/-- Settles O26: each tier's text is that of its number form (`encodeOf_adds`, `encodeOf_addm`, `encodeOf_setf`); the corner values
are the small and the medium symbols at one biased delta `b`. -/
theorem wrnumSymbolsPerTier : Obligations.WrnumSymbolsPerTier := by
  intro tab
  refine ⟨fun d a h0 h1 => ?small, fun d a h => ?medium, fun d a h => ?full, fun a => ?corners⟩
  case small =>
    have hb : ((d.toInt + 1024).toNat : Int) = d.toInt + 1024 := by omega
    exact ⟨_, hb, by omega, Machine.wrnumText_small_symbols tab a h0 h1 hb⟩
  case medium =>
    have hb : ((d.toInt + 32768).toNat : Int) = d.toInt + 32768 := by omega
    exact ⟨_, hb, by omega, Machine.wrnumText_medium_symbols tab a h hb⟩
  case full =>
    have hv : (a.setWidth 28).toNat = a.toNat % 2 ^ 28 := BitVec.toNat_setWidth 28 a
    exact ⟨_, hv, Words.text.inj ((Machine.wrnumText_full tab a h).trans (encodeOf_setf tab _))⟩
  case corners =>
    exact ⟨Machine.wrnumText_small_symbols tab (b := 0) a (by decide) (by decide) (by decide),
      Machine.wrnumText_small_symbols tab (b := 1024) a (by decide) (by decide) (by decide),
      Machine.wrnumText_small_symbols tab (b := 2047) a (by decide) (by decide) (by decide),
      Machine.wrnumText_medium_symbols tab (b := 0) a (by decide) (by decide),
      Machine.wrnumText_medium_symbols tab (b := 31743) a (by decide) (by decide),
      Machine.wrnumText_medium_symbols tab (b := 33792) a (by decide) (by decide),
      Machine.wrnumText_medium_symbols tab (b := 65535) a (by decide) (by decide)⟩

/-- Settles O25: each range lies in one tier (`tierOfDelta_small`, `tierOfDelta_medium`, `tierOfDelta_full`), and the tier fixes the
number of symbols (`wrnumText_length`). -/
theorem tierBoundaries : Obligations.TierBoundaries := by
  intro tab d a
  have symbols {t : Tier} (ht : Machine.tierOfDelta d = t) :
      Machine.tierOfDelta d = t ∧ (Machine.wrnumText tab d a).length = t.extra + 1 :=
    ⟨ht, ht ▸ Machine.wrnumText_length tab d a⟩
  exact ⟨fun h => symbols (Machine.tierOfDelta_full (.inl h)),
    fun h0 h1 => symbols (Machine.tierOfDelta_medium (.inl ⟨h0, h1⟩)),
    fun h0 h1 => symbols (Machine.tierOfDelta_small h0 h1),
    fun h0 h1 => symbols (Machine.tierOfDelta_medium (.inr ⟨h0, h1⟩)),
    fun h => symbols (Machine.tierOfDelta_full (.inr h))⟩

end Sys2Proof
end

section
/-! PROOF. The delta accumulator (spec/44_delta_accumulator.md R131). First what ACLR and ALOAD do in `UNIT`, and what the
acceptance of a pass makes of the state; last the statement of the family. -/

namespace Sys2Proof

namespace Machine

/-! ## ACLR and ALOAD in `UNIT` -/

/-- ACLR clears both accumulators and ends the command (R131). -/
theorem exec_aclr_unit {s : State} (h : s.st = .unit) : exec .aclr s = .next (clearAccumulators s).endCommand := by
  change execAclr s = _
  rw [execAclr, unitCommand_unit h]

/-- ALOAD replaces the accumulator of its axis and returns it (R133). -/
theorem exec_aload_unit (a : Axis) (v : Word32) {s : State} (h : s.st = .unit) :
    exec (.aload a v) s = .next (returnAcc a (s.setAcc a v)) := by
  change execAload a v s = _
  rw [execAload, unitCommand_unit h]

/-! ## The acceptance of a pass -/

/-- With a command on the port a pass is accepted and started (R143, R146). -/
theorem acceptPass_some (st' : FsmState) {s : State} {c : Command} (hp : s.port = some c) :
    acceptPass st' s = .next (passStart (acceptAs st' c s)) := by
  rw [acceptPass, hp]

/-- DECODE's first action in `IDLE` is the pass start (R143, R146). -/
theorem exec_decode_idle {s : State} {c : Command} (h : s.st = .idle) (hp : s.port = some c) :
    exec .decode s = .next (passStart (acceptAs .dNext c s)) := by
  change execDecode s = _
  rw [execDecode, execDecodeOf, h]
  exact acceptPass_some .dNext hp

/-- ENCODE's first action in `IDLE` is the pass start (R143, R146). -/
theorem exec_encode_idle {s : State} {c : Command} (h : s.st = .idle) (hp : s.port = some c) :
    exec .encode s = .next (passStart (acceptAs .eNext c s)) := by
  change execEncode s = _
  rw [execEncode, execEncodeOf, h]
  exact acceptPass_some .eNext hp

end Machine

/-! ## The statement of the delta accumulator family -/

/-- Settles O38: ACLR's effect is `exec_aclr_unit`, which also clears what ALOAD loaded in the rule's example; a pass is accepted
into its pass start (`exec_decode_idle`, `exec_encode_idle`), where both accumulators are 0. -/
theorem aclrClearsBothAccumulators : Obligations.AclrClearsBothAccumulators := by
  refine ⟨fun _ _ => rfl, fun s h => Machine.exec_aclr_unit h, fun s c h hp => ?passes, fun s h => ?afterLoad⟩
  case passes =>
    exact ⟨⟨_, Machine.exec_decode_idle h hp, Machine.passStart_ax _, Machine.passStart_ay _⟩,
      ⟨_, Machine.exec_encode_idle h hp, Machine.passStart_ax _, Machine.passStart_ay _⟩⟩
  case afterLoad =>
    exact ⟨_, _, Machine.exec_aload_unit .x 7 h, Machine.State.setAcc_x_ax s 7, Machine.exec_aclr_unit rfl,
      (Machine.State.endCommand_ax _).trans (Machine.clearAccumulators_ax _)⟩

end Sys2Proof
end

section
/-! PROOF. The sequence FSM on empty input (spec/45_sequence_fsm.md R171). First the two steps of a pass that finds `END` at once:
the acceptance, and the end test of `D_NEXT` or `E_NEXT`; last the statement of the family. -/

namespace Sys2Proof

namespace Machine

/-! ## The acceptance of a pass, as a step -/

/-- Command code 14 is DECODE (R60). -/
theorem decodeCommand_op14 {c : Command} (h : c.op = 14#4) : decodeCommand c = .ok .decode := by
  rw [decodeCommand, h]; rfl

/-- Command code 15 is ENCODE (R60). -/
theorem decodeCommand_op15 {c : Command} (h : c.op = 15#4) : decodeCommand c = .ok .encode := by
  rw [decodeCommand, h]; rfl

/-- In `IDLE` a step runs the instruction of the command on the port (R142). -/
theorem step_idle {s : State} {c : Command} {i : Instr} (hr : s.rst = false) (h : s.st = .idle) (hp : s.port = some c)
    (hd : decodeCommand c = .ok i) : step s = exec i s := by
  rw [← stepOf_alphabet, stepOf_idle hr h hp hd, execOf_alphabet]

/-- An idle block that is presented DECODE starts the pass in `D_NEXT` (R143, R146). -/
theorem step_accepts_decode {s : State} {c : Command} (hr : s.rst = false) (h : s.st = .idle) (hp : s.port = some c)
    (hop : c.op = 14#4) : step s = .next (passStart (acceptAs .dNext c s)) :=
  (step_idle hr h hp (decodeCommand_op14 hop)).trans (exec_decode_idle h hp)

/-- An idle block that is presented ENCODE starts the pass in `E_NEXT` (R143, R146). -/
theorem step_accepts_encode {s : State} {c : Command} (hr : s.rst = false) (h : s.st = .idle) (hp : s.port = some c)
    (hop : c.op = 15#4) : step s = .next (passStart (acceptAs .eNext c s)) :=
  (step_idle hr h hp (decodeCommand_op15 hop)).trans (exec_encode_idle h hp)

/-! ## The end of a pass, as a step -/

/-- `END` at a number boundary is removed and the pass ends normally (R147, R151). -/
theorem step_dNext_end {s : State} {rest : List (Item Char8)} (hr : s.rst = false) (h : s.st = .dNext)
    (hsi : s.si = .endTok :: rest) : step s = .next ({ s with si := rest } : State).endCommand := by
  rw [← stepOf_alphabet, stepOf_dNext hr h, decodeNext, hsi]

/-- `END` at a point boundary is removed and the pass ends normally (R147, R161). -/
theorem step_eNext_end {s : State} {rest : List (Item Point)} (hr : s.rst = false) (h : s.st = .eNext)
    (hpi : s.pi = .endTok :: rest) : step s = .next ({ s with pi := rest } : State).endCommand := by
  rw [← stepOf_alphabet, stepOf_eNext hr h, encodeNext, hpi]

end Machine

open Sys2Proof.Machine Sys2Proof.Safety

/-- A run of one step more, on any machine of the host, is the run from the state the first step gives. -/
theorem core_run_succ {M : Host.Core} {n : Nat} {s t : M.State} (hs : M.step s = .next t) : M.run (n + 1) s = M.run n t := by
  rw [Host.Core.run, hs]

/-- A step in front of a run of `n` steps makes a run of `n + 1` steps. -/
theorem runsTo_succ {n : Nat} {s t u : State} (hs : step s = .next t) (ht : RunsTo n t u) : RunsTo (n + 1) s u :=
  (core_run_succ (M := Sys2Proof.core) hs).trans ht

/-- Two steps, one after the other, are a run of two steps. -/
theorem runsTo_two {s t u : State} (hs : step s = .next t) (ht : step t = .next u) : RunsTo 2 s u :=
  runsTo_succ hs (runsTo_succ ht rfl)

/-! ## Empty input -/

/-- A DECODE presented with `END` at the head of SI is accepted and ends, in two steps. -/
theorem decode_end_runsTo {s : State} {c : Command} {rest : List (Item Char8)} (hr : s.rst = false) (h : s.st = .idle)
    (hp : s.port = some c) (hop : c.op = 14#4) (hsi : s.si = .endTok :: rest) :
    RunsTo 2 s ({ passStart (acceptAs .dNext c s) with si := rest } : State).endCommand :=
  runsTo_two (step_accepts_decode hr h hp hop) (step_dNext_end hr rfl hsi)

/-- An ENCODE presented with `END` at the head of PI is accepted and ends, in two steps. -/
theorem encode_end_runsTo {s : State} {c : Command} {rest : List (Item Point)} (hr : s.rst = false) (h : s.st = .idle)
    (hp : s.port = some c) (hop : c.op = 15#4) (hpi : s.pi = .endTok :: rest) :
    RunsTo 2 s ({ passStart (acceptAs .eNext c s) with pi := rest } : State).endCommand :=
  runsTo_two (step_accepts_encode hr h hp hop) (step_eNext_end hr rfl hpi)

/-- The normative DECODE of the empty text gives no point (R150, R171). -/
theorem decodeText_nil (tab : Config.Table) : decodeText tab [] = some [] := rfl

/-- The normative ENCODE of the empty list gives no character (R160, R171). -/
theorem encodeText_nil (tab : Config.Table) (draws : Nat) : encodeText tab draws [] = [] := rfl

/-- Settles O50: an accepted pass that finds `END` at once ends in its next step (`decode_end_runsTo`, `encode_end_runsTo`); the
acceptance cleared `CUR` and `ERR`, and neither step pushes. -/
theorem emptyInputGivesEmptyOutput : Obligations.EmptyInputGivesEmptyOutput := by
  intro s c hr h hp
  refine ⟨fun rest hop hsi => ?decode, fun rest hop hpi => ?encode, decodeText_nil, encodeText_nil⟩
  case decode => exact ⟨_, decode_end_runsTo hr h hp hop hsi, rfl, rfl, rfl, rfl, rfl, rfl, rfl⟩
  case encode => exact ⟨_, encode_end_runsTo hr h hp hop hpi, rfl, rfl, rfl, rfl, rfl, rfl, rfl⟩

end Sys2Proof
end

section
/-! PROOF. Decoding what the encoder writes (spec/30_encoding.md R51 to R62). First the symbols of a text as the decoder reads
them, over every admissible table; then the value of each number form from its symbols; last the statements of the family. -/

namespace Sys2Proof

/-- The table of R74 is one of the admissible tables (R70 to R73). -/
theorem alphabet_admissible : Config.Admissible Config.alphabet := by
  unfold Config.Admissible
  decide +kernel

/-- An admissible table has 64 entries (R70). -/
theorem Config.Admissible.length_eq {tab : Config.Table} (h : Config.Admissible tab) : tab.length = 64 := h.1

/-- The entries of an admissible table are distinct (R71). -/
theorem Config.Admissible.nodup {tab : Config.Table} (h : Config.Admissible tab) : tab.Nodup := h.2.1

/-- Over an admissible table every ROM character is found at its index (R76). -/
theorem Config.Admissible.revOf_romOf {tab : Config.Table} (h : Config.Admissible tab) (i : Index) :
    revOf tab (romOf tab i) = some i :=
  Sys2Proof.revOf_romOf h.length_eq h.nodup i

/-! ## Symbols taken from a text -/

/-- Taking symbols from a text of symbols takes the first of them (R80). -/
theorem takeSymbols_map_romOf {tab : Config.Table} (h : Config.Admissible tab) (n : Nat) (is : List Index) (hn : n ≤ is.length) :
    takeSymbols tab n (is.map (romOf tab)) = .ok (is.take n, (is.drop n).map (romOf tab)) := by
  induction is generalizing n with
  | nil =>
    obtain rfl : n = 0 := Nat.le_zero.mp hn
    rfl
  | cons i is ih =>
    cases n with
    | zero => rfl
    | succ n => simp only [List.map_cons, takeSymbols, h.revOf_romOf, ih n (Nat.le_of_succ_le_succ hn), List.take, List.drop]

/-- A text of symbols that is too short is exhausted (R180). -/
theorem takeSymbols_exhausted {tab : Config.Table} (h : Config.Admissible tab) (n : Nat) (is : List Index) (hn : is.length < n) :
    takeSymbols tab n (is.map (romOf tab)) = .error .exhausted := by
  induction is generalizing n with
  | nil =>
    cases n with
    | zero => cases hn
    | succ n => rfl
  | cons i is ih =>
    cases n with
    | zero => cases hn
    | succ n => simp only [List.map_cons, takeSymbols, h.revOf_romOf, ih n (Nat.lt_of_succ_lt_succ hn)]

/-- The probe is the first symbol of a text of symbols (R56). -/
theorem takeSymbols_probe {tab : Config.Table} (h : Config.Admissible tab) (p : Index) (es : List Index) :
    takeSymbols tab 1 ((p :: es).map (romOf tab)) = .ok ([p], es.map (romOf tab)) :=
  takeSymbols_map_romOf h 1 (p :: es) (by simp)

/-- A lone symbol decodes to its instruction (R50). -/
theorem decodeOf_romOf {tab : Config.Table} (h : Config.Admissible tab) (i : Index) :
    decodeOf tab (.text [romOf tab i]) = .ok (symInstr i) :=
  congrArg Except.ok (charInstrOf_of_some (h.revOf_romOf i))

/-- Two symbols or more are decoded as one number (R51). -/
theorem decodeOf_symbols (tab : Config.Table) (p q : Index) (es : List Index) :
    decodeOf tab (.text ((p :: q :: es).map (romOf tab))) =
      match decodeNumber tab ((p :: q :: es).map (romOf tab)) with
      | .ok (i, []) => .ok i
      | .ok (_, _ :: _) => .error .leftover
      | .error e => .error e := rfl

/-- A text of as many symbols as its leading one asks for is the number of its form (R55, R56). -/
theorem decodeOf_number {tab : Config.Table} (h : Config.Admissible tab) {p : Index} {es : List Index}
    (hes : es.length = (tierOf p).extra) :
    decodeOf tab (.text ((p :: es).map (romOf tab))) = .ok (formOf (tierOf p) p (joinSymbols es)) := by
  have hrest := takeSymbols_map_romOf h es.length es le_rfl
  rw [List.take_length, List.drop_length, hes] at hrest
  cases es with
  | nil =>
    have := (Tier.extra_le (tierOf p)).1
    simp only [List.length_nil] at hes
    omega
  | cons q es => rw [decodeOf_symbols, decodeNumber, takeSymbols_probe h]; simp only [hrest, List.map_nil]

/-- A text of two symbols or more but fewer than its leading one asks for is refused (R180). -/
theorem decodeOf_short {tab : Config.Table} (h : Config.Admissible tab) {p q : Index} {es : List Index}
    (hes : (q :: es).length < (tierOf p).extra) :
    decodeOf tab (.text ((p :: q :: es).map (romOf tab))) = .error .exhausted := by
  rw [decodeOf_symbols, decodeNumber, takeSymbols_probe h]
  simp only [takeSymbols_exhausted h _ _ hes]

/-- A text of more symbols than its leading one asks for is refused (R51). -/
theorem decodeOf_long {tab : Config.Table} (h : Config.Admissible tab) {p : Index} {es : List Index}
    (hes : (tierOf p).extra < es.length) :
    decodeOf tab (.text ((p :: es).map (romOf tab))) = .error .leftover := by
  have hrest := takeSymbols_map_romOf h (tierOf p).extra es hes.le
  cases es with
  | nil => cases hes
  | cons q es =>
    obtain ⟨c, cs, hcs⟩ := List.exists_cons_of_length_pos (l := ((q :: es).drop (tierOf p).extra).map (romOf tab))
      (by rw [List.length_map, List.length_drop]; omega)
    rw [decodeOf_symbols, decodeNumber, takeSymbols_probe h]
    simp only [hrest, hcs]

/-! ## The form of a leading symbol, by its number -/

/-- The leading symbols 0 to 31 are of the small form (R56). -/
theorem tierOf_eq_small {p : Index} (h : p.toNat < 32) : tierOf p = .small := by
  have all : ∀ p : Index, p.toNat < 32 → tierOf p = .small := by decide
  exact all p h

/-- The leading symbols 32 to 47 are of the medium form (R56). -/
theorem tierOf_eq_medium {p : Index} (h0 : 32 ≤ p.toNat) (h1 : p.toNat < 48) : tierOf p = .medium := by
  have all : ∀ p : Index, 32 ≤ p.toNat → p.toNat < 48 → tierOf p = .medium := by decide
  exact all p h0 h1

/-- The leading symbols 48 to 63 are of the full form (R56). -/
theorem tierOf_eq_full {p : Index} (h : 48 ≤ p.toNat) : tierOf p = .full := by
  have all : ∀ p : Index, 48 ≤ p.toNat → tierOf p = .full := by decide
  exact all p h

/-! ## The value of the symbols after the leading one -/

/-- A symbol shifted in below `k` symbols already read (R80). -/
theorem shiftSymbol_toNat (num : Word32) (i : Index) (h : num.toNat < 2 ^ 26) :
    ((num <<< 6) ||| i.setWidth 32).toNat = num.toNat * 64 + i.toNat := by
  have hi := i.isLt
  rw [BitVec.toNat_or, BitVec.toNat_shiftLeft, BitVec.toNat_setWidth_of_le (by decide), Nat.shiftLeft_eq,
    Nat.mod_eq_of_lt (by omega), Nat.mul_comm, ← Nat.two_pow_add_eq_or_of_lt hi]

/-- One symbol's value (R80). -/
theorem joinSymbols_one (a : Index) : (joinSymbols [a]).toNat = a.toNat := by
  simp [joinSymbols]; omega

/-- Two symbols' value (R80). -/
theorem joinSymbols_two (a b : Index) : (joinSymbols [a, b]).toNat = a.toNat * 64 + b.toNat := by
  have h1 := joinSymbols_one a
  change ((joinSymbols [a] <<< 6) ||| b.setWidth 32).toNat = _
  rw [shiftSymbol_toNat _ _ (by omega), h1]

/-- Four symbols' value (R80). -/
theorem joinSymbols_four (a b c d : Index) :
    (joinSymbols [a, b, c, d]).toNat = ((a.toNat * 64 + b.toNat) * 64 + c.toNat) * 64 + d.toNat := by
  have h2 := joinSymbols_two a b
  have h3 : (joinSymbols [a, b, c]).toNat = (a.toNat * 64 + b.toNat) * 64 + c.toNat := by
    change ((joinSymbols [a, b] <<< 6) ||| c.setWidth 32).toNat = _
    rw [shiftSymbol_toNat _ _ (by omega), h2]
  change ((joinSymbols [a, b, c] <<< 6) ||| d.setWidth 32).toNat = _
  rw [shiftSymbol_toNat _ _ (by omega), h3]

/-! ## The number forms, from their symbols -/

/-- The field of ADDS from its two symbols is the biased delta (R52, R55). -/
theorem rawField_small_symbols {b : Nat} (hb : b < 2 ^ 11) :
    (rawField .small (BitVec.ofNat 6 (b / 64)) (joinSymbols [BitVec.ofNat 6 (b % 64)])).toNat = b := by
  have he : (joinSymbols [BitVec.ofNat 6 (b % 64)]).toNat = b % 64 := by rw [joinSymbols_one, BitVec.toNat_ofNat]; omega
  rw [rawField_small_toNat _ (by omega), he, BitVec.toNat_ofNat]
  omega

/-- The field of ADDM from its three symbols is the biased delta (R53, R55). -/
theorem rawField_medium_symbols {b : Nat} (hb : b < 2 ^ 16) :
    (rawField .medium (BitVec.ofNat 6 (32 + b / 4096))
      (joinSymbols [BitVec.ofNat 6 (b / 64 % 64), BitVec.ofNat 6 (b % 64)])).toNat = b := by
  have he : (joinSymbols [BitVec.ofNat 6 (b / 64 % 64), BitVec.ofNat 6 (b % 64)]).toNat = b % 4096 := by
    simp only [joinSymbols_two, BitVec.toNat_ofNat]
    omega
  rw [rawField_medium_toNat _ (by omega), he, BitVec.toNat_ofNat]
  omega

/-- The value of SETF from its five symbols (R54, R55). -/
theorem rawField_full_symbols {v : Nat} (hv : v < 2 ^ 28) :
    (rawField .full (BitVec.ofNat 6 (48 + v / 2 ^ 24))
      (joinSymbols [BitVec.ofNat 6 (v / 2 ^ 18 % 64), BitVec.ofNat 6 (v / 2 ^ 12 % 64), BitVec.ofNat 6 (v / 2 ^ 6 % 64),
        BitVec.ofNat 6 (v % 64)])).toNat = v := by
  have he : (joinSymbols [BitVec.ofNat 6 (v / 2 ^ 18 % 64), BitVec.ofNat 6 (v / 2 ^ 12 % 64), BitVec.ofNat 6 (v / 2 ^ 6 % 64),
      BitVec.ofNat 6 (v % 64)]).toNat = v % 2 ^ 24 := by
    simp only [joinSymbols_four, BitVec.toNat_ofNat]
    omega
  rw [rawField_full_toNat _ (by omega), he, BitVec.toNat_ofNat]
  omega

/-- The leading symbol of ADDS asks for one more (R52, R56). -/
theorem tierOf_small_lead {b : Nat} (hb : b < 2 ^ 11) : tierOf (BitVec.ofNat 6 (b / 64)) = .small :=
  tierOf_eq_small (by rw [BitVec.toNat_ofNat]; omega)

/-- The leading symbol of ADDM asks for two more (R53, R56). -/
theorem tierOf_medium_lead {b : Nat} (hb : b < 2 ^ 16) : tierOf (BitVec.ofNat 6 (32 + b / 4096)) = .medium :=
  tierOf_eq_medium (by rw [BitVec.toNat_ofNat]; omega) (by rw [BitVec.toNat_ofNat]; omega)

/-- The leading symbol of SETF asks for four more (R54, R56). -/
theorem tierOf_full_lead {v : Nat} (hv : v < 2 ^ 28) : tierOf (BitVec.ofNat 6 (48 + v / 2 ^ 24)) = .full :=
  tierOf_eq_full (by rw [BitVec.toNat_ofNat]; omega)

/-- The text of a biased small delta decodes to ADDS (R52). -/
theorem decodeOf_small_symbols {tab : Config.Table} (h : Config.Admissible tab) {b : Nat} (hb : b < 2 ^ 11) :
    decodeOf tab (.text [romOf tab (BitVec.ofNat 6 (b / 64)), romOf tab (BitVec.ofNat 6 (b % 64))]) =
      .ok (.adds ((b : Int) - 1024)) := by
  have lead := tierOf_small_lead hb
  have number := decodeOf_number h (p := BitVec.ofNat 6 (b / 64)) (es := [BitVec.ofNat 6 (b % 64)]) (by rw [lead]; rfl)
  rw [lead, formOf, rawField_small_symbols hb] at number
  exact number

/-- The text of a biased medium delta decodes to ADDM (R53). -/
theorem decodeOf_medium_symbols {tab : Config.Table} (h : Config.Admissible tab) {b : Nat} (hb : b < 2 ^ 16) :
    decodeOf tab (.text [romOf tab (BitVec.ofNat 6 (32 + b / 4096)), romOf tab (BitVec.ofNat 6 (b / 64 % 64)),
      romOf tab (BitVec.ofNat 6 (b % 64))]) = .ok (.addm ((b : Int) - 32768)) := by
  have lead := tierOf_medium_lead hb
  have number := decodeOf_number h (p := BitVec.ofNat 6 (32 + b / 4096))
    (es := [BitVec.ofNat 6 (b / 64 % 64), BitVec.ofNat 6 (b % 64)]) (by rw [lead]; rfl)
  rw [lead, formOf, rawField_medium_symbols hb] at number
  exact number

/-- The text of an absolute value decodes to SETF (R54). -/
theorem decodeOf_full_symbols {tab : Config.Table} (h : Config.Admissible tab) {v : Nat} (hv : v < 2 ^ 28) :
    decodeOf tab (.text [romOf tab (BitVec.ofNat 6 (48 + v / 2 ^ 24)), romOf tab (BitVec.ofNat 6 (v / 2 ^ 18 % 64)),
      romOf tab (BitVec.ofNat 6 (v / 2 ^ 12 % 64)), romOf tab (BitVec.ofNat 6 (v / 2 ^ 6 % 64)),
      romOf tab (BitVec.ofNat 6 (v % 64))]) = .ok (.setf (BitVec.ofNat 28 v)) := by
  have lead := tierOf_full_lead hv
  have number := decodeOf_number h (p := BitVec.ofNat 6 (48 + v / 2 ^ 24))
    (es := [BitVec.ofNat 6 (v / 2 ^ 18 % 64), BitVec.ofNat 6 (v / 2 ^ 12 % 64), BitVec.ofNat 6 (v / 2 ^ 6 % 64),
      BitVec.ofNat 6 (v % 64)]) (by rw [lead]; rfl)
  have value := rawField_full_symbols hv
  rw [lead, formOf] at number
  refine number.trans (congrArg (Except.ok ∘ Instr.setf) (BitVec.eq_of_toNat_eq ?_))
  rw [BitVec.toNat_setWidth, value, BitVec.toNat_ofNat]

/-! ## Commands -/

/-- A field of a 64-bit operand keeps what was written into it. -/
theorem setWidth_setWidth_64 {n : Nat} (h : n ≤ 64) (x : BitVec n) : (x.setWidth 64).setWidth n = x :=
  BitVec.setWidth_setWidth_of_le x h |>.trans (BitVec.setWidth_eq x)

/-- `OPA[0]` names the axis that was written into it (R61). -/
theorem ofBit_axisOperand (a : Axis) : Axis.ofBit ((axisOperand a).getLsbD 0) = a := by cases a <;> rfl

/-- A legal RDNUM count is not rejected (R61). -/
theorem decodeCommand_rdnum {n : BitVec 3} (hn : n ≤ 5#3) : decodeCommand ⟨3, n.setWidth 64, 0⟩ = .ok (.rdnum n) := by
  have hle : ¬ 5#3 < n := BitVec.not_lt.mpr hn
  simp only [decodeCommand, setWidth_setWidth_64 (show 3 ≤ 64 by decide)]
  exact if_neg hle

/-- Decoding inverts encoding, constructor by constructor, over every admissible table. -/
theorem decodeOf_encodeOf {tab : Config.Table} (h : Config.Admissible tab) (i : Instr) (hi : i.wellFormedOf tab = true) :
    decodeOf tab (encodeOf tab i) = .ok i := by
  have field {n : Nat} (hn : n ≤ 64) (x : BitVec n) := setWidth_setWidth_64 hn x
  cases i with
  | adds d =>
    have bounds : -1024 ≤ d ∧ d ≤ 1023 := of_decide_eq_true hi
    have hb : ((d + 1024).toNat : Int) = d + 1024 := by omega
    rw [encodeOf_adds tab bounds.1 bounds.2 hb, decodeOf_small_symbols h (by omega), hb, add_sub_cancel_right]
  | addm d =>
    have bounds : -32768 ≤ d ∧ d ≤ 32767 := of_decide_eq_true hi
    have hb : ((d + 32768).toNat : Int) = d + 32768 := by omega
    rw [encodeOf_addm tab bounds.1 bounds.2 hb, decodeOf_medium_symbols h (by omega), hb, add_sub_cancel_right]
  | setf v => rw [encodeOf_setf, decodeOf_full_symbols h v.isLt, BitVec.ofNat_toNat, BitVec.setWidth_eq]
  | skip c => exact congrArg Except.ok (charInstrOf_of_none ((isFillerOf_iff_revOf_none tab c).mp hi))
  | rdnum n => exact decodeCommand_rdnum (of_decide_eq_true hi)
  | symof i => exact congrArg (Except.ok ∘ Instr.symof) (field (by decide) i)
  | idxof c => exact congrArg (Except.ok ∘ Instr.idxof) (field (by decide) c)
  | wrnum d a => exact congrArg₂ (fun u v => Except.ok (Instr.wrnum u v)) (field (by decide) d) (field (by decide) a)
  | todegx n => exact congrArg (Except.ok ∘ Instr.todegx) (field (by decide) n)
  | todegy n => exact congrArg (Except.ok ∘ Instr.todegy) (field (by decide) n)
  | aadd a d => exact congrArg₂ (fun u v => Except.ok (Instr.aadd u v)) (ofBit_axisOperand a) (field (by decide) d)
  | aload a v => exact congrArg₂ (fun u v => Except.ok (Instr.aload u v)) (ofBit_axisOperand a) (field (by decide) v)
  | adiff a x => exact congrArg₂ (fun u v => Except.ok (Instr.adiff u v)) (ofBit_axisOperand a) (field (by decide) x)
  | nop | decnum | tofixx _ | tofixy _ | aclr | decode | encode => rfl
  | _ => exact decodeOf_romOf h _

/-! ## The opcode table's words -/

/-- The symbols of a 12-bit word (R38). -/
theorem symbols2_ofNat (tab : Config.Table) {w : Nat} (hw : w < 2 ^ 12) :
    symbols2 tab (BitVec.ofNat 12 w) = [BitVec.ofNat 6 (w / 64), BitVec.ofNat 6 (w % 64)].map (romOf tab) := by
  have low : BitVec.ofNat 6 (w / 2 ^ 0) = BitVec.ofNat 6 (w % 64) := index_eq_of_mod_eq (by omega)
  simp only [symbols2, extractSymbol_eq, BitVec.toNat_ofNat, Nat.mod_eq_of_lt hw, low]
  rfl

/-- The symbols of an 18-bit word (R38). -/
theorem symbols3_ofNat (tab : Config.Table) {w : Nat} (hw : w < 2 ^ 18) :
    symbols3 tab (BitVec.ofNat 18 w) =
      [BitVec.ofNat 6 (w / 4096), BitVec.ofNat 6 (w / 64 % 64), BitVec.ofNat 6 (w % 64)].map (romOf tab) := by
  have middle : BitVec.ofNat 6 (w / 2 ^ 6) = BitVec.ofNat 6 (w / 64 % 64) := index_eq_of_mod_eq (by omega)
  have low : BitVec.ofNat 6 (w / 2 ^ 0) = BitVec.ofNat 6 (w % 64) := index_eq_of_mod_eq (by omega)
  simp only [symbols3, extractSymbol_eq, BitVec.toNat_ofNat, Nat.mod_eq_of_lt hw, middle, low]
  rfl

/-- The symbols of a 30-bit word (R38). -/
theorem symbols5_ofNat (tab : Config.Table) {w : Nat} (hw : w < 2 ^ 30) :
    symbols5 tab (BitVec.ofNat 30 w) =
      [BitVec.ofNat 6 (w / 2 ^ 24), BitVec.ofNat 6 (w / 2 ^ 18 % 64), BitVec.ofNat 6 (w / 2 ^ 12 % 64),
        BitVec.ofNat 6 (w / 2 ^ 6 % 64), BitVec.ofNat 6 (w % 64)].map (romOf tab) := by
  have group (k : Nat) : BitVec.ofNat 6 (w / 2 ^ k) = BitVec.ofNat 6 (w / 2 ^ k % 64) := index_eq_of_mod_eq (by omega)
  have low : BitVec.ofNat 6 (w / 2 ^ 0) = BitVec.ofNat 6 (w % 64) := index_eq_of_mod_eq (by omega)
  simp only [symbols5, extractSymbol_eq, BitVec.toNat_ofNat, Nat.mod_eq_of_lt hw, group 18, group 12, group 6, low]
  rfl

/-- What the decoder answers for a text, as the table's question shows it. -/
theorem decodeTableWord_text {nbits w : Nat} {cs : List Char8} (h : tableWords nbits w = some (.text cs)) :
    decodeTableWord nbits w = (decodeOf Config.alphabet (.text cs)).toOption := by
  rw [decodeTableWord, h]
  simp only [decode]
  cases decodeOf Config.alphabet (.text cs) <;> rfl

/-- A 12-bit word is asked as its two symbols (log 2). -/
theorem decodeTableWord_12 {w : Nat} (hw : w < 2 ^ 12) :
    decodeTableWord 16 w = (decodeOf Config.alphabet
      (.text ([BitVec.ofNat 6 (w / 64), BitVec.ofNat 6 (w % 64)].map (romOf Config.alphabet)))).toOption := by
  rw [← symbols2_ofNat _ hw]
  exact decodeTableWord_text (if_pos hw)

/-- An 18-bit word is asked as its three symbols (log 2). -/
theorem decodeTableWord_18 {w : Nat} (hw : w < 2 ^ 18) :
    decodeTableWord 24 w = (decodeOf Config.alphabet
      (.text ([BitVec.ofNat 6 (w / 4096), BitVec.ofNat 6 (w / 64 % 64), BitVec.ofNat 6 (w % 64)].map
        (romOf Config.alphabet)))).toOption := by
  rw [← symbols3_ofNat _ hw]
  exact decodeTableWord_text (if_pos hw)

/-- A 30-bit word is asked as its five symbols (log 2). -/
theorem decodeTableWord_30 {w : Nat} (hw : w < 2 ^ 30) :
    decodeTableWord 32 w = (decodeOf Config.alphabet
      (.text ([BitVec.ofNat 6 (w / 2 ^ 24), BitVec.ofNat 6 (w / 2 ^ 18 % 64), BitVec.ofNat 6 (w / 2 ^ 12 % 64),
        BitVec.ofNat 6 (w / 2 ^ 6 % 64), BitVec.ofNat 6 (w % 64)].map (romOf Config.alphabet)))).toOption := by
  rw [← symbols5_ofNat _ hw]
  exact decodeTableWord_text (if_pos hw)

/-- A number too large for its word stands for no words. -/
theorem decodeTableWord_none {nbits w : Nat} (h : tableWords nbits w = none) : decodeTableWord nbits w = none := by
  rw [decodeTableWord, h]

/-! ## The statements -/

/-- Settles O9: `decodeOf_encodeOf`, of which this machine is the case of its own table (`alphabet_admissible`). -/
theorem decodeInvertsEncode : Obligations.DecodeInvertsEncode :=
  ⟨decodeOf_encodeOf alphabet_admissible, fun _ h => decodeOf_encodeOf h⟩

/-- Settles O10: with the form's marker the word's symbols are those of a number (`decodeOf_small_symbols`,
`decodeOf_medium_symbols`, `decodeOf_full_symbols`); without it the leading symbol asks for more symbols than there are
(`decodeOf_short`) or for fewer (`decodeOf_long`). -/
theorem tableWordsDecode : Obligations.TableWordsDecode := by
  intro w
  have adm := alphabet_admissible
  have lead {k : Nat} (hk : k < 64) : (BitVec.ofNat 6 k).toNat = k := by rw [BitVec.toNat_ofNat]; omega
  refine ⟨fun hw => ?small, fun hw => ?notSmall, fun h0 h1 => ?medium, fun hw => ?notMedium, fun h0 h1 => ?full, fun hw => ?notFull⟩
  case small =>
    rw [decodeTableWord_12 (by omega)]
    exact congrArg Except.toOption (decodeOf_small_symbols adm hw)
  case notSmall =>
    rcases Nat.lt_or_ge w (2 ^ 12) with h12 | h12
    · have two : 2 ≤ (tierOf (BitVec.ofNat 6 (w / 64))).extra := by
        rcases Nat.lt_or_ge (w / 64) 48 with h48 | h48
        · rw [tierOf_eq_medium (by rw [lead (by omega)]; omega) (by rwa [lead (by omega)])]; decide
        · rw [tierOf_eq_full (by rwa [lead (by omega)])]; decide
      rw [decodeTableWord_12 h12]
      exact congrArg Except.toOption (decodeOf_short adm (es := []) two)
    · exact decodeTableWord_none (if_neg (show ¬ w < 2 ^ 12 by omega))
  case medium =>
    have hb : w - 2 ^ 17 < 2 ^ 16 := by omega
    have number := decodeOf_medium_symbols adm hb
    have p : 32 + (w - 2 ^ 17) / 4096 = w / 4096 := by omega
    have m : (w - 2 ^ 17) / 64 % 64 = w / 64 % 64 := by omega
    have l : (w - 2 ^ 17) % 64 = w % 64 := by omega
    rw [p, m, l, show ((w - 2 ^ 17 : Nat) : Int) = w - 2 ^ 17 by omega] at number
    rw [decodeTableWord_18 (by omega)]
    exact congrArg Except.toOption number
  case notMedium =>
    rcases Nat.lt_or_ge w (2 ^ 18) with h18 | h18
    · rw [decodeTableWord_18 h18]
      rcases hw with hw | hw
      · have one : (tierOf (BitVec.ofNat 6 (w / 4096))).extra = 1 := by
          rw [tierOf_eq_small (by rw [lead (by omega)]; omega)]; rfl
        exact congrArg Except.toOption (decodeOf_long adm (by rw [one]; simp))
      · have four : (tierOf (BitVec.ofNat 6 (w / 4096))).extra = 4 := by
          rw [tierOf_eq_full (by rw [lead (by omega)]; omega)]; rfl
        exact congrArg Except.toOption (decodeOf_short adm (by rw [four]; simp))
    · exact decodeTableWord_none (if_neg (show ¬ w < 2 ^ 18 by omega))
  case full =>
    have number := decodeOf_full_symbols adm (v := w - 3 * 2 ^ 28) (by omega)
    have p : 48 + (w - 3 * 2 ^ 28) / 2 ^ 24 = w / 2 ^ 24 := by omega
    have g18 : (w - 3 * 2 ^ 28) / 2 ^ 18 % 64 = w / 2 ^ 18 % 64 := by omega
    have g12 : (w - 3 * 2 ^ 28) / 2 ^ 12 % 64 = w / 2 ^ 12 % 64 := by omega
    have g6 : (w - 3 * 2 ^ 28) / 2 ^ 6 % 64 = w / 2 ^ 6 % 64 := by omega
    have l : (w - 3 * 2 ^ 28) % 64 = w % 64 := by omega
    have v : BitVec.ofNat 28 (w - 3 * 2 ^ 28) = BitVec.ofNat 28 w := BitVec.eq_of_toNat_eq (by simp only [BitVec.toNat_ofNat]; omega)
    rw [p, g18, g12, g6, l, v] at number
    rw [decodeTableWord_30 h1]
    exact congrArg Except.toOption number
  case notFull =>
    rcases Nat.lt_or_ge w (2 ^ 30) with h30 | h30
    · have two : (tierOf (BitVec.ofNat 6 (w / 2 ^ 24))).extra ≤ 2 := by
        rcases Nat.lt_or_ge (w / 2 ^ 24) 32 with h32 | h32
        · rw [tierOf_eq_small (by rwa [lead (by omega)])]; decide
        · rw [tierOf_eq_medium (by rwa [lead (by omega)]) (by rw [lead (by omega)]; omega)]; decide
      rw [decodeTableWord_30 h30]
      exact congrArg Except.toOption (decodeOf_long adm (Nat.lt_of_le_of_lt two (by simp)))
    · exact decodeTableWord_none (if_neg (show ¬ w < 2 ^ 30 by omega))

/-- Settles O11: each word is evaluated. -/
theorem sampleWordsDecode : Obligations.SampleWordsDecode := by
  unfold Obligations.SampleWordsDecode
  decide +kernel

end Sys2Proof
end

section
/-! PROOF. The whole-pass forms on texts (spec/41_number_decoder.md R80 to R83, spec/45_sequence_fsm.md R150, R160). First what a read
of symbols and of a number does with a text in front of anything else; then DECODE's loop without its bound; last the statements
about texts: DECNUM after WRNUM, DECODE after ENCODE, the bounds of a pass, fillers. -/

namespace Sys2Proof

namespace Machine

/-! ## Symbols read from a stream -/

/-- A read of no symbols is over (R80). -/
theorem rdnumLoop_zero (tab : Config.Table) (num : Word32) (pops : Nat) (items : List (Item Char8)) :
    rdnumLoop tab 0 num pops items = .value num pops items := by
  rw [rdnumLoop]

/-- Over an admissible table as many ROM characters as are asked for are read at once (R80). -/
theorem rdnumLoop_symbols {tab : Config.Table} (h : Config.Admissible tab) (is : List Index) (num : Word32) (pops : Nat)
    (rest : List (Item Char8)) :
    rdnumLoop tab is.length num pops ((is.map (romOf tab)).map .data ++ rest) =
      .value (is.foldl (fun acc i => (acc <<< 6) ||| i.setWidth 32) num) (pops + is.length) rest := by
  induction is generalizing num pops with
  | nil => exact rdnumLoop_zero tab num pops rest
  | cons i is ih =>
    simp only [List.map_cons, List.cons_append, List.length_cons, rdnumLoop, h.revOf_romOf, ih, List.foldl_cons]
    rw [Nat.add_assoc, Nat.add_comm 1]

/-- The probe's symbol read into an empty `NUM` is that symbol (R82). -/
theorem probe_setWidth (p : Index) : (((0#32 <<< 6) ||| p.setWidth 32).setWidth 6 : Index) = p := by
  rw [BitVec.zero_shiftLeft, BitVec.zero_or, BitVec.setWidth_setWidth_of_le _ (by decide), BitVec.setWidth_eq]

/-- DECNUM on the symbols of a number (R83). -/
theorem decnumOn_symbols {tab : Config.Table} (h : Config.Admissible tab) {p : Index} {es : List Index}
    (hes : es.length = (tierOf p).extra) (rest : List (Item Char8)) :
    decnumOn tab (((p :: es).map (romOf tab)).map .data ++ rest) =
      .value (tierOf p) (payloadOf (tierOf p) p (joinSymbols es)) (es.length + 1) rest := by
  have hprobe := rdnumLoop_symbols h [p] 0 0 ((es.map (romOf tab)).map .data ++ rest)
  have hextra := rdnumLoop_symbols h es 0 1 rest
  simp only [List.map_cons, List.map_nil, List.cons_append, List.nil_append, List.length_singleton] at hprobe
  rw [hes] at hextra
  rw [decnumOn, List.map_cons, List.map_cons, List.cons_append, hprobe]
  simp only [List.foldl_cons, List.foldl_nil, BitVec.ofNat_eq_ofNat, probe_setWidth]
  simp only [BitVec.ofNat_eq_ofNat] at hextra
  rw [Nat.zero_add, hextra]
  simp only [joinSymbols, hes, Nat.add_comm]

/-! ## The payload of what WRNUM writes -/

/-- Taking the bias off a field gives the delta back (R55). -/
theorem sub_bias_eq {f d : Word32} {b bias : Nat} (hf : f.toNat = b) (hb : (b : Int) = d.toInt + bias) :
    f - BitVec.ofNat 32 bias = d := by
  have hf' : f = BitVec.ofInt 32 b := by rw [← hf, BitVec.ofInt_natCast, BitVec.ofNat_toNat, BitVec.setWidth_eq]
  rw [hf', hb, ← BitVec.ofInt_natCast, BitVec.ofInt_add, BitVec.add_sub_cancel, BitVec.ofInt_toInt]

/-- DECNUM on the characters of a small delta (R83, R101). -/
theorem decnumOn_wrnumText_small {tab : Config.Table} (h : Config.Admissible tab) {d : Word32} (a : Word32)
    (rest : List (Item Char8)) (h0 : -1024 ≤ d.toInt) (h1 : d.toInt ≤ 1023) :
    decnumOn tab ((wrnumText tab d a).map .data ++ rest) = .value .small d 2 rest := by
  obtain ⟨b, hb⟩ := Int.eq_ofNat_of_zero_le (show 0 ≤ d.toInt + 1024 by omega)
  have lead := tierOf_small_lead (b := b) (by omega)
  have number := decnumOn_symbols h (p := BitVec.ofNat 6 (b / 64)) (es := [BitVec.ofNat 6 (b % 64)]) (by rw [lead]; rfl) rest
  rw [lead, payloadOf, sub_bias_eq (bias := Config.smallBias) (rawField_small_symbols (by omega)) hb.symm] at number
  rw [wrnumText_small_symbols tab a h0 h1 hb.symm]
  exact number

/-- DECNUM on the characters of a medium delta (R83, R102). -/
theorem decnumOn_wrnumText_medium {tab : Config.Table} (h : Config.Admissible tab) {d : Word32} (a : Word32)
    (rest : List (Item Char8)) (hd : (-32768 ≤ d.toInt ∧ d.toInt ≤ -1025) ∨ (1024 ≤ d.toInt ∧ d.toInt ≤ 32767)) :
    decnumOn tab ((wrnumText tab d a).map .data ++ rest) = .value .medium d 3 rest := by
  obtain ⟨b, hb⟩ := Int.eq_ofNat_of_zero_le (show 0 ≤ d.toInt + 32768 by omega)
  have lead := tierOf_medium_lead (b := b) (by omega)
  have number := decnumOn_symbols h (p := BitVec.ofNat 6 (32 + b / 4096))
    (es := [BitVec.ofNat 6 (b / 64 % 64), BitVec.ofNat 6 (b % 64)]) (by rw [lead]; rfl) rest
  rw [lead, payloadOf, sub_bias_eq (bias := Config.medBias) (rawField_medium_symbols (by omega)) hb.symm] at number
  rw [wrnumText_medium_symbols tab a hd hb.symm]
  exact number

/-- DECNUM on the characters of a large delta (R83, R103). -/
theorem decnumOn_wrnumText_full {tab : Config.Table} (h : Config.Admissible tab) {d : Word32} (a : Word32)
    (rest : List (Item Char8)) (hd : d.toInt ≤ -32769 ∨ 32768 ≤ d.toInt) :
    decnumOn tab ((wrnumText tab d a).map .data ++ rest) = .value .full (a &&& Config.fullMask) 5 rest := by
  have hv : (a.setWidth 28).toNat < 2 ^ 28 := (a.setWidth 28).isLt
  have lead := tierOf_full_lead hv
  have value := rawField_full_symbols hv
  have number := decnumOn_symbols h (p := BitVec.ofNat 6 (48 + (a.setWidth 28).toNat / 2 ^ 24))
    (es := [BitVec.ofNat 6 ((a.setWidth 28).toNat / 2 ^ 18 % 64), BitVec.ofNat 6 ((a.setWidth 28).toNat / 2 ^ 12 % 64),
      BitVec.ofNat 6 ((a.setWidth 28).toNat / 2 ^ 6 % 64), BitVec.ofNat 6 ((a.setWidth 28).toNat % 64)]) (by rw [lead]; rfl) rest
  rw [lead, payloadOf, BitVec.eq_of_toNat_eq (value.trans ((BitVec.toNat_setWidth 28 a).trans (toNat_and_fullMask a).symm))] at number
  rw [Words.text.inj ((wrnumText_full tab a hd).trans (encodeOf_setf tab _))]
  exact number

/-- DECNUM inverts WRNUM, in each tier (41_number_decoder.md, section 4). -/
theorem decnumOn_wrnumText {tab : Config.Table} (h : Config.Admissible tab) (d a : Word32) (rest : List (Item Char8)) :
    decnumOn tab ((wrnumText tab d a).map .data ++ rest) =
      .value (tierOfDelta d) (if tierOfDelta d = .full then a &&& Config.fullMask else d) (wrnumText tab d a).length rest := by
  rw [wrnumText_length]
  by_cases hs : -1024 ≤ d.toInt ∧ d.toInt ≤ 1023
  · rw [tierOfDelta_small hs.1 hs.2, decnumOn_wrnumText_small h a rest hs.1 hs.2]; rfl
  · by_cases hm : -32768 ≤ d.toInt ∧ d.toInt ≤ 32767
    · have hd : (-32768 ≤ d.toInt ∧ d.toInt ≤ -1025) ∨ (1024 ≤ d.toInt ∧ d.toInt ≤ 32767) := by omega
      rw [tierOfDelta_medium hd, decnumOn_wrnumText_medium h a rest hd]; rfl
    · have hd : d.toInt ≤ -32769 ∨ 32768 ≤ d.toInt := by omega
      rw [tierOfDelta_full hd, decnumOn_wrnumText_full h a rest hd]; rfl

/-! ## A text in front of anything else -/

/-- A character costs a read one pop and at most one symbol (R80, R81). -/
theorem rdnumLoop_data (tab : Config.Table) (n : Nat) (num : Word32) (c : Char8) :
    ∃ n' num', n ≤ n' ∧ ∀ pops rest,
      rdnumLoop tab (n + 1) num pops (.data c :: rest) = rdnumLoop tab n' num' (pops + 1) rest := by
  cases hc : revOf tab c with
  | none => exact ⟨n + 1, num, Nat.le_succ n, fun pops rest => rdnumLoop_filler num pops rest (Nat.succ_pos n) hc⟩
  | some i => exact ⟨n, (num <<< 6) ||| i.setWidth 32, le_rfl, fun pops rest => by rw [rdnumLoop, hc]⟩

/-- A read of a text either ends inside it, and then does so whatever follows, or takes the whole text and goes on (R80). -/
theorem rdnumLoop_text (tab : Config.Table) (text : List Char8) (n : Nat) (num : Word32) :
    (∃ num' k, ∃ text' : List Char8, k + text'.length = text.length ∧ n ≤ k ∧ ∀ pops tail,
      rdnumLoop tab n num pops (text.map .data ++ tail) = .value num' (pops + k) (text'.map .data ++ tail)) ∨
    (∃ n' num', ∀ pops tail,
      rdnumLoop tab n num pops (text.map .data ++ tail) = rdnumLoop tab (n' + 1) num' (pops + text.length) tail) := by
  cases n with
  | zero => exact .inl ⟨num, 0, text, Nat.zero_add _, le_rfl, fun _ _ => rdnumLoop_zero ..⟩
  | succ n =>
    induction text generalizing n num with
    | nil => exact .inr ⟨n, num, fun _ _ => rfl⟩
    | cons c text ih =>
      obtain ⟨n₁, num₁, hn₁, hstep⟩ := rdnumLoop_data tab n num c
      simp only [List.map_cons, List.cons_append, hstep, List.length_cons]
      cases n₁ with
      | zero => exact .inl ⟨num₁, 1, text, Nat.add_comm .., by omega, fun _ _ => rdnumLoop_zero ..⟩
      | succ n₁ =>
        obtain ⟨num', k, text', hk, hn, hread⟩ | ⟨n', num', hread⟩ := ih num₁ n₁
        · exact .inl ⟨num', k + 1, text', by omega, by omega, fun pops tail => by rw [hread, Nat.add_assoc, Nat.add_comm 1]⟩
        · exact .inr ⟨n', num', fun pops tail => by rw [hread, Nat.add_assoc, Nat.add_comm 1]⟩

/-- A read that still needs a symbol pops every filler and raises at `END` (R80, R81). -/
theorem rdnumLoop_fillers {tab : Config.Table} {fillers : List Char8} (hf : ∀ c ∈ fillers, revOf tab c = none) (n : Nat)
    (num : Word32) (pops : Nat) (more : List (Item Char8)) :
    rdnumLoop tab (n + 1) num pops (fillers.map .data ++ .endTok :: more) = .exhausted (pops + fillers.length) more := by
  induction fillers generalizing pops with
  | nil => rfl
  | cons c fillers ih =>
    obtain ⟨hc, hf⟩ := List.forall_mem_cons.mp hf
    rw [List.map_cons, List.cons_append, rdnumLoop_filler num pops _ (Nat.succ_pos n) hc, ih hf, List.length_cons]
    congr 1
    omega

/-- What DECNUM does with a text: a number inside it, two characters at least, whatever follows; or it runs out of symbols and
raises, also when fillers are put behind the text (R83). -/
theorem decnumOn_text (tab : Config.Table) (text : List Char8) :
    (∃ t v k, ∃ text' : List Char8, k + text'.length = text.length ∧ 2 ≤ k ∧ ∀ tail,
      decnumOn tab (text.map .data ++ tail) = .value t v k (text'.map .data ++ tail)) ∨
    (∀ fillers : List Char8, (∀ c ∈ fillers, revOf tab c = none) → ∀ more,
      decnumOn tab (text.map .data ++ (fillers.map .data ++ .endTok :: more)) = .exhausted (text.length + fillers.length) more) := by
  obtain ⟨num, k, text', hk, hn, hprobe⟩ | ⟨n', num, hprobe⟩ := rdnumLoop_text tab text 1 0
  · obtain ⟨e, j, text'', hj, hm, hextra⟩ | ⟨m, e, hextra⟩ := rdnumLoop_text tab text' (tierOf (num.setWidth 6)).extra 0
    · have := (Tier.extra_le (tierOf (num.setWidth 6))).1
      refine .inl ⟨tierOf (num.setWidth 6), payloadOf (tierOf (num.setWidth 6)) (num.setWidth 6) e, k + j, text'',
        by omega, by omega, fun tail => ?_⟩
      rw [decnumOn, hprobe]
      simp only [hextra, Nat.zero_add]
    · refine .inr fun fillers hf more => ?_
      rw [decnumOn, hprobe]
      simp only [hextra, rdnumLoop_fillers hf]
      congr 1
      omega
  · refine .inr fun fillers hf more => ?_
    rw [decnumOn, hprobe, rdnumLoop_fillers hf]
    simp only [Nat.zero_add]

/-! ## DECODE's loop without its bound -/

/-- A read leaves fewer items, one less for each symbol at least. -/
theorem rdnumLoop_value_length {tab : Config.Table} {n : Nat} {num : Word32} {pops : Nat} {items : List (Item Char8)} {num' : Word32}
    {pops' : Nat} {rest : List (Item Char8)} (h : rdnumLoop tab n num pops items = .value num' pops' rest) :
    rest.length + n ≤ items.length := by
  induction items generalizing n num pops with
  | nil =>
    cases n with
    | zero => cases h; exact le_rfl
    | succ n => cases h
  | cons it items ih =>
    cases n with
    | zero => rw [rdnumLoop_zero] at h; cases h; exact le_rfl
    | succ n =>
      cases it with
      | endTok => cases h
      | data c =>
        obtain ⟨n₁, num₁, hn₁, hstep⟩ := rdnumLoop_data tab n num c
        rw [hstep] at h
        have := ih h
        rw [List.length_cons]
        omega

/-- A number leaves fewer items. -/
theorem decnumOn_value_length {tab : Config.Table} {items : List (Item Char8)} {t : Tier} {v : Word32} {pops : Nat}
    {rest : List (Item Char8)} (h : decnumOn tab items = .value t v pops rest) : rest.length < items.length := by
  rw [decnumOn] at h
  split at h
  · cases h
  · cases h
  · next hprobe =>
    have hp := rdnumLoop_value_length hprobe
    dsimp only at h
    split at h
    · cases h
    · cases h
    · next hextra =>
      have he := rdnumLoop_value_length hextra
      cases h
      omega

/-- Any two bounds above the stream's length give the same end. -/
theorem decodeLoop_bound (tab : Config.Table) {n m : Nat} (r : DecodePass) {items : List (Item Char8)} (hn : items.length < n)
    (hm : items.length < m) : decodeLoop tab n r items = decodeLoop tab m r items := by
  induction n generalizing m r items with
  | zero => cases hn
  | succ n ih =>
    cases m with
    | zero => cases hm
    | succ m =>
      cases items with
      | nil => rfl
      | cons it items =>
        cases it with
        | endTok => rfl
        | data c =>
          rw [decodeLoop, decodeLoop]
          cases hnum : decnumOn tab (.data c :: items) with
          | starved => rfl
          | exhausted pops rest => rfl
          | value t v pops rest =>
            have hlt := decnumOn_value_length hnum
            exact ih _ (by omega) (by omega)

/-- DECODE from a pass under way, with a bound that is never reached (R150). -/
def DecodePass.run (tab : Config.Table) (r : DecodePass) (items : List (Item Char8)) : DecodeEnd :=
  decodeLoop tab (items.length + 1) r items

/-- A DECODE is a run from the pass start (R146, R150). -/
theorem decodePass_eq_run (tab : Config.Table) (items : List (Item Char8)) :
    decodePass tab items = DecodePass.start.run tab items := rfl

/-- At `END` the pass is over (R150). -/
theorem DecodePass.run_end (tab : Config.Table) (r : DecodePass) (rest : List (Item Char8)) :
    r.run tab (.endTok :: rest) = .ok r rest := rfl

/-- At a character the pass reads a number and goes on with it applied, or ends with the read (R150). -/
theorem DecodePass.run_data (tab : Config.Table) (r : DecodePass) (c : Char8) (more : List (Item Char8)) :
    r.run tab (.data c :: more) = match decnumOn tab (.data c :: more) with
      | .starved => .starved
      | .exhausted pops rest => .exhausted { r with cur := r.cur + pops } rest
      | .value t v pops rest => (({ r with cur := r.cur + pops } : DecodePass).apply t v).run tab rest := by
  rw [DecodePass.run, decodeLoop]
  cases hnum : decnumOn tab (.data c :: more) with
  | starved => rfl
  | exhausted pops rest => rfl
  | value t v pops rest => exact decodeLoop_bound tab _ (decnumOn_value_length hnum) (Nat.lt_succ_self _)

/-- A number at the head of the stream is applied (R150). -/
theorem DecodePass.run_value {tab : Config.Table} (r : DecodePass) {items : List (Item Char8)} {t : Tier} {v : Word32} {pops : Nat}
    {rest : List (Item Char8)} (h : decnumOn tab items = .value t v pops rest) :
    r.run tab items = (({ r with cur := r.cur + pops } : DecodePass).apply t v).run tab rest := by
  cases items with
  | nil => cases h
  | cons it items =>
    cases it with
    | endTok => cases h
    | data c => rw [DecodePass.run_data, h]

/-- A character whose number is never complete ends the pass with the exception (R150, R181). -/
theorem DecodePass.run_exhausted {tab : Config.Table} (r : DecodePass) {c : Char8} {more : List (Item Char8)} {pops : Nat}
    {rest : List (Item Char8)} (h : decnumOn tab (.data c :: more) = .exhausted pops rest) :
    r.run tab (.data c :: more) = .exhausted { r with cur := r.cur + pops } rest := by
  rw [DecodePass.run_data, h]

/-- Applying a number does not pop (R150). -/
theorem DecodePass.apply_cur (r : DecodePass) (t : Tier) (v : Word32) : (r.apply t v).cur = r.cur := by
  rw [DecodePass.apply]; cases r.axis <;> rfl

/-! ## The bounds of a pass -/

/-- The characters a pass has surely popped: four for each point and two for a pending X (R168). -/
def DecodePass.charsNeeded (r : DecodePass) : Nat := 4 * r.points.length + if r.axis = .y then 2 else 0

/-- A number needs two characters more (R168). -/
theorem DecodePass.apply_charsNeeded (r : DecodePass) (t : Tier) (v : Word32) :
    (r.apply t v).charsNeeded = r.charsNeeded + 2 := by
  rw [DecodePass.apply]
  cases hax : r.axis <;> simp [DecodePass.charsNeeded, hax]
  omega

/-- A pass over a text ends at its `END`, after popping each character once (R168, R210). -/
theorem DecodePass.run_text (tab : Config.Table) (r : DecodePass) (text : List Char8) (more : List (Item Char8)) :
    ∃ r', (r.run tab (text.map .data ++ .endTok :: more) = .ok r' more ∨
        r.run tab (text.map .data ++ .endTok :: more) = .exhausted r' more) ∧
      r'.cur = r.cur + text.length ∧ r'.charsNeeded ≤ r.charsNeeded + text.length := by
  induction hlen : text.length using Nat.strong_induction_on generalizing r text with
  | _ len ih =>
    obtain ⟨t, v, k, text', hk, h2, hnum⟩ | hnum := decnumOn_text tab text
    · rw [DecodePass.run_value r (hnum _)]
      obtain ⟨r', hend, hcur, hneed⟩ := ih text'.length (by omega) (({ r with cur := r.cur + k } : DecodePass).apply t v) text' rfl
      rw [DecodePass.apply_charsNeeded] at hneed
      rw [DecodePass.apply_cur] at hcur
      exact ⟨r', hend, by rw [hcur, ← hlen, ← hk]; exact Nat.add_assoc .., by
        simp only [DecodePass.charsNeeded] at hneed ⊢; omega⟩
    · cases text with
      | nil => exact ⟨r, .inl rfl, by simp [← hlen], by simp⟩
      | cons c text =>
        have hend := DecodePass.run_exhausted r (hnum [] (by simp) more)
        exact ⟨_, .inr hend, by simp [← hlen], by simp [DecodePass.charsNeeded]⟩

/-- WRNUM's characters are two to five (R105). -/
theorem wrnumText_length_bounds (tab : Config.Table) (d a : Word32) :
    2 ≤ (wrnumText tab d a).length ∧ (wrnumText tab d a).length ≤ 5 := by
  have := Tier.extra_le (tierOfDelta d)
  rw [wrnumText_length]
  omega

/-- A point costs an ENCODE pass one pop and four to ten characters (R160, R168). -/
theorem EncodePass.point_bounds (tab : Config.Table) (r : EncodePass) (pt : Point) :
    (r.point tab pt).cur = r.cur + 1 ∧ r.chars.length + 4 ≤ (r.point tab pt).chars.length ∧
      (r.point tab pt).chars.length ≤ r.chars.length + 10 := by
  have hx := wrnumText_length_bounds tab ((drawFixed (toFixedX pt.x) r.draws).1 - r.ax) (drawFixed (toFixedX pt.x) r.draws).1
  have hy := wrnumText_length_bounds tab
    ((drawFixed (toFixedY pt.y) (drawFixed (toFixedX pt.x) r.draws).2).1 - r.ay)
    (drawFixed (toFixedY pt.y) (drawFixed (toFixedX pt.x) r.draws).2).1
  refine ⟨rfl, ?_⟩
  simp only [EncodePass.point, List.length_append]
  omega

/-- An ENCODE pass ends at its list's `END`, with the pops and characters R168 bounds (R160, R210). -/
theorem encodeLoop_points (tab : Config.Table) (r : EncodePass) (pts : List Point) (more : List (Item Point)) :
    ∃ r', encodeLoop tab r (pts.map .data ++ .endTok :: more) = .ok r' more ∧ r'.cur = r.cur + pts.length ∧
      r.chars.length + 4 * pts.length ≤ r'.chars.length ∧ r'.chars.length ≤ r.chars.length + 10 * pts.length := by
  induction pts generalizing r with
  | nil => exact ⟨r, rfl, rfl, le_rfl, le_rfl⟩
  | cons pt pts ih =>
    obtain ⟨r', hend, hcur, hlo, hhi⟩ := ih (r.point tab pt)
    obtain ⟨pcur, plo, phi⟩ := EncodePass.point_bounds tab r pt
    refine ⟨r', hend, ?_⟩
    rw [List.length_cons]
    omega

/-! ## DECODE after ENCODE -/

/-- After a number of WRNUM for the difference to an accumulator, the accumulator holds the new value (R104, R150). -/
theorem newAccumulator_eq {v acc : Word32} (hv : v.toNat < 2 ^ 28) :
    (if tierOfDelta (v - acc) = .full then (if tierOfDelta (v - acc) = .full then v &&& Config.fullMask else v - acc)
      else acc + (if tierOfDelta (v - acc) = .full then v &&& Config.fullMask else v - acc)) = v := by
  by_cases ht : tierOfDelta (v - acc) = .full
  · simp only [ht, if_true]
    exact BitVec.eq_of_toNat_eq (by rw [toNat_and_fullMask, Nat.mod_eq_of_lt hv])
  · simp only [ht, if_false]
    rw [BitVec.add_comm, BitVec.sub_add_cancel]

/-- DECODE of the two numbers of a point ends the point at its fixed values (R150, R160). -/
theorem DecodePass.run_point {tab : Config.Table} (h : Config.Admissible tab) (q : DecodePass) (hq : q.axis = .x) {x y : Word32}
    (hx : x.toNat < 2 ^ 28) (hy : y.toNat < 2 ^ 28) (items : List (Item Char8)) :
    ∃ q' : DecodePass, q.run tab ((wrnumText tab (x - q.ax) x).map .data ++ ((wrnumText tab (y - q.ay) y).map .data ++ items)) =
        q'.run tab items ∧
      q'.ax = x ∧ q'.ay = y ∧ q'.axis = .x ∧ q'.points = q.points ++ [⟨toDegreesX x, toDegreesY y⟩] := by
  obtain ⟨ax, ay, axis, cur, points⟩ := q
  obtain rfl : axis = .x := hq
  rw [DecodePass.run_value _ (decnumOn_wrnumText h _ _ _)]
  simp only [DecodePass.apply, DecodePass.acc, newAccumulator_eq hx]
  rw [DecodePass.run_value _ (decnumOn_wrnumText h _ _ _)]
  simp only [DecodePass.apply, DecodePass.acc, newAccumulator_eq hy]
  exact ⟨_, rfl, rfl, rfl, rfl, rfl⟩

/-- A point with fixed values costs ENCODE no free value and moves its accumulators there (R160). -/
theorem EncodePass.point_fixed (tab : Config.Table) (r : EncodePass) {pt : Point} {x y : Word32} (hx : toFixedX pt.x = some x)
    (hy : toFixedY pt.y = some y) :
    r.point tab pt = ⟨x, y, r.cur + 1, r.draws, r.chars ++ wrnumText tab (x - r.ax) x ++ wrnumText tab (y - r.ay) y⟩ := by
  simp only [EncodePass.point, hx, hy, drawFixed]

/-- A point and its fixed values, within the 28 bits an absolute value is written in (43_coordinate_transform.md, section 4). -/
def HasFixed (pt : Point) (f : Word32 × Word32) : Prop :=
  toFixedX pt.x = some f.1 ∧ toFixedY pt.y = some f.2 ∧ f.1.toNat < 2 ^ 28 ∧ f.2.toNat < 2 ^ 28

/-- What ENCODE adds to its characters, DECODE from the same accumulators reads as the points of the fixed values. -/
theorem encodeLoop_decodes {tab : Config.Table} (h : Config.Admissible tab) {pts : List Point} {fixed : List (Word32 × Word32)}
    (hf : List.Forall₂ HasFixed pts fixed) (r : EncodePass) :
    ∃ r' chars, encodeLoop tab r (pointItems pts) = .ok r' [] ∧ r'.chars = r.chars ++ chars ∧
      ∀ q : DecodePass, q.ax = r.ax → q.ay = r.ay → q.axis = .x →
        ∃ q', q.run tab (textItems chars) = .ok q' [] ∧
          q'.points = q.points ++ fixed.map fun f => ⟨toDegreesX f.1, toDegreesY f.2⟩ := by
  induction hf generalizing r with
  | nil => exact ⟨r, [], rfl, by simp, fun q _ _ _ => ⟨q, rfl, by simp⟩⟩
  | @cons pt f pts fixed hpt _ ih =>
    obtain ⟨hx, hy, hxlt, hylt⟩ := hpt
    obtain ⟨r', chars, henc, hchars, hdec⟩ := ih (r.point tab pt)
    rw [EncodePass.point_fixed tab r hx hy] at hchars hdec
    refine ⟨r', wrnumText tab (f.1 - r.ax) f.1 ++ (wrnumText tab (f.2 - r.ay) f.2 ++ chars), henc, by
      simpa only [List.append_assoc] using hchars, fun q hax hay haxis => ?_⟩
    obtain ⟨q₁, hq₁, h1x, h1y, h1a, h1p⟩ := DecodePass.run_point h q haxis hxlt hylt (textItems chars)
    obtain ⟨q', hq', hpoints⟩ := hdec q₁ h1x h1y h1a
    refine ⟨q', ?_, by rw [hpoints, h1p, List.map_cons, List.append_assoc]; rfl⟩
    rw [← hq', ← hq₁, hax, hay]
    simp only [textItems, List.map_append, List.append_assoc]

/-! ## Fillers -/

/-- The symbols of a text, its fillers left out (R58). -/
def symbolsOf (tab : Config.Table) (text : List Char8) : List Char8 := text.filter fun c => (revOf tab c).isSome

/-- A read of a text and of its symbols alone go the same way: both end inside the text, or both raise (R81). -/
theorem rdnumLoop_symbolsOf (tab : Config.Table) (text : List Char8) (n : Nat) (num : Word32) (pops pops' : Nat) :
    (∃ num' k k' text', text' <:+ text ∧ rdnumLoop tab n num pops (textItems text) = .value num' k (textItems text') ∧
      rdnumLoop tab n num pops' (textItems (symbolsOf tab text)) = .value num' k' (textItems (symbolsOf tab text'))) ∨
    (∃ k k', rdnumLoop tab n num pops (textItems text) = .exhausted k [] ∧
      rdnumLoop tab n num pops' (textItems (symbolsOf tab text)) = .exhausted k' []) := by
  cases n with
  | zero => exact .inl ⟨num, pops, pops', text, List.suffix_rfl, rdnumLoop_zero .., rdnumLoop_zero ..⟩
  | succ n =>
    induction text generalizing n num pops pops' with
    | nil => exact .inr ⟨pops, pops', rfl, rfl⟩
    | cons c text ih =>
      cases hc : revOf tab c with
      | none =>
        have hskip : symbolsOf tab (c :: text) = symbolsOf tab text := List.filter_cons_of_neg (by simp [hc])
        have hpop : rdnumLoop tab (n + 1) num pops (textItems (c :: text)) = rdnumLoop tab (n + 1) num (pops + 1) (textItems text) :=
          rdnumLoop_filler num pops _ (Nat.succ_pos n) hc
        rw [hskip, hpop]
        obtain ⟨num', k, k', text', hsuf, hread⟩ | hraise := ih num (pops + 1) pops' n
        · exact .inl ⟨num', k, k', text', hsuf.trans (List.suffix_cons c text), hread⟩
        · exact .inr hraise
      | some i =>
        have hkeep : symbolsOf tab (c :: text) = c :: symbolsOf tab text := List.filter_cons_of_pos (by simp [hc])
        have hshift (p : Nat) (cs : List Char8) : rdnumLoop tab (n + 1) num p (textItems (c :: cs)) =
            rdnumLoop tab n ((num <<< 6) ||| i.setWidth 32) (p + 1) (textItems cs) := by
          change rdnumLoop tab (n + 1) num p (.data c :: textItems cs) = _
          rw [rdnumLoop, hc]
        rw [hkeep, hshift, hshift]
        cases n with
        | zero => exact .inl ⟨_, _, _, text, List.suffix_cons c text, rdnumLoop_zero .., rdnumLoop_zero ..⟩
        | succ n =>
          obtain ⟨num', k, k', text', hsuf, hread⟩ | hraise := ih ((num <<< 6) ||| i.setWidth 32) (pops + 1) (pops' + 1) n
          · exact .inl ⟨num', k, k', text', hsuf.trans (List.suffix_cons c text), hread⟩
          · exact .inr hraise

/-- DECNUM on a text and on its symbols alone goes the same way (R81, R83). -/
theorem decnumOn_symbolsOf (tab : Config.Table) (text : List Char8) :
    (∃ t v k k' text', text' <:+ text ∧ decnumOn tab (textItems text) = .value t v k (textItems text') ∧
      decnumOn tab (textItems (symbolsOf tab text)) = .value t v k' (textItems (symbolsOf tab text'))) ∨
    (∃ k k', decnumOn tab (textItems text) = .exhausted k [] ∧
      decnumOn tab (textItems (symbolsOf tab text)) = .exhausted k' []) := by
  obtain ⟨num, k, k', text', hsuf, hl, hr⟩ | ⟨k, k', hl, hr⟩ := rdnumLoop_symbolsOf tab text 1 0 0 0
  · obtain ⟨e, j, j', text'', hsuf', hl', hr'⟩ | ⟨j, j', hl', hr'⟩ :=
      rdnumLoop_symbolsOf tab text' (tierOf (num.setWidth 6)).extra 0 k k'
    · exact .inl ⟨tierOf (num.setWidth 6), payloadOf (tierOf (num.setWidth 6)) (num.setWidth 6) e, j, j', text'', hsuf'.trans hsuf,
        by rw [decnumOn, hl]; simp only [hl'], by rw [decnumOn, hr]; simp only [hr']⟩
    · exact .inr ⟨j, j', by rw [decnumOn, hl]; simp only [hl'], by rw [decnumOn, hr]; simp only [hr']⟩
  · exact .inr ⟨k, k', by rw [decnumOn, hl], by rw [decnumOn, hr]⟩

/-- The result of a DECODE (R184). -/
def DecodeEnd.result : DecodeEnd → Option (List Point)
  | .ok r _ => some r.points
  | .exhausted _ _ => none
  | .starved => none

/-- The result of DECODE on a text is that of its pass (R184). -/
theorem decodeText_eq (tab : Config.Table) (text : List Char8) :
    decodeText tab text = (DecodePass.start.run tab (textItems text)).result := by
  rw [← decodePass_eq_run, decodeText]
  cases decodePass tab (textItems text) <;> rfl

/-- `CUR` does not decide what a number does (R150). -/
theorem DecodePass.apply_with_cur (r : DecodePass) (m n : Nat) (t : Tier) (v : Word32) :
    { ({ r with cur := m } : DecodePass).apply t v with cur := n } = ({ r with cur := n } : DecodePass).apply t v := by
  obtain ⟨ax, ay, axis, cur, points⟩ := r
  cases axis <;> rfl

/-- A pass over a text that is empty or ends in a symbol gives what the pass over its symbols gives, `CUR` aside (Q5). -/
theorem DecodePass.run_symbolsOf (tab : Config.Table) (r : DecodePass) (n : Nat) (text : List Char8)
    (hlast : ∀ c ∈ text.getLast?, (revOf tab c).isSome) :
    (r.run tab (textItems text)).result =
      (({ r with cur := n } : DecodePass).run tab (textItems (symbolsOf tab text))).result := by
  induction hlen : text.length using Nat.strong_induction_on generalizing r n text with
  | _ len ih =>
    cases text with
    | nil => rfl
    | cons c text =>
      obtain ⟨t, v, k, k', text', hsuf, hl, hr⟩ | ⟨k, k', hl, hr⟩ := decnumOn_symbolsOf tab (c :: text)
      · have hlt := decnumOn_value_length hl
        simp only [textItems, List.length_append, List.length_map] at hlt
        have hlast' : ∀ b ∈ text'.getLast?, (revOf tab b).isSome := by
          intro b hb
          obtain ⟨pre, hpre⟩ := hsuf
          refine hlast b ?_
          rw [← hpre, List.getLast?_append, Option.mem_def.mp hb]
          rfl
        rw [DecodePass.run_value r hl, DecodePass.run_value _ hr,
          ih text'.length (by omega) _ (n + k') text' hlast' rfl]
        exact congrArg (fun q : DecodePass => (q.run tab _).result) (DecodePass.apply_with_cur r _ _ t v)
      · obtain ⟨b, bs, hbs⟩ : ∃ b bs, symbolsOf tab (c :: text) = b :: bs := by
          obtain ⟨b, hb⟩ : ∃ b, (c :: text).getLast? = some b := ⟨_, List.getLast?_eq_some_getLast (List.cons_ne_nil c text)⟩
          exact List.exists_cons_of_ne_nil (List.ne_nil_of_mem
            (List.mem_filter.mpr ⟨List.mem_of_getLast? hb, hlast b hb⟩))
        rw [hbs] at hr ⊢
        have hl' := DecodePass.run_exhausted r hl
        have hr' := DecodePass.run_exhausted ({ r with cur := n } : DecodePass) hr
        exact (congrArg DecodeEnd.result hl').trans (congrArg DecodeEnd.result hr').symm

/-- A pass that ended normally on a text raises on the text with fillers behind it (45_sequence_fsm.md, section 2). -/
theorem DecodePass.run_trailing {tab : Config.Table} {fillers : List Char8} (hne : fillers ≠ [])
    (hf : ∀ c ∈ fillers, revOf tab c = none) (r : DecodePass) (text : List Char8)
    (hok : (r.run tab (textItems text)).result.isSome = true) :
    (r.run tab (textItems (text ++ fillers))).result = none := by
  have happend (cs : List Char8) : textItems (cs ++ fillers) = cs.map .data ++ (fillers.map .data ++ [.endTok]) := by
    simp only [textItems, List.map_append, List.append_assoc]
  induction hlen : text.length using Nat.strong_induction_on generalizing r text with
  | _ len ih =>
    obtain ⟨t, v, k, text', hk, h2, hnum⟩ | hnum := decnumOn_text tab text
    · rw [textItems, DecodePass.run_value r (hnum _)] at hok
      rw [happend, DecodePass.run_value r (hnum _), ← happend]
      exact ih text'.length (by omega) _ text' hok rfl
    · obtain ⟨c, more, hcons⟩ : ∃ c more, textItems (text ++ fillers) = .data c :: more := by
        obtain ⟨c, cs, hcs⟩ := List.exists_cons_of_ne_nil (List.append_ne_nil_of_right_ne_nil text hne)
        exact ⟨c, textItems cs, by rw [hcs]; rfl⟩
      have hraise := hnum fillers hf []
      rw [← happend, hcons] at hraise
      rw [hcons]
      exact congrArg DecodeEnd.result (DecodePass.run_exhausted r hraise)

end Machine

/-! ## The statements -/

/-- Settles O27: `decnumOn_wrnumText`, tier by tier. -/
theorem decnumInvertsWrnum : Obligations.DecnumInvertsWrnum :=
  fun _ d a rest h => Machine.decnumOn_wrnumText h d a rest

/-- Settles O46: ENCODE's characters, read from the accumulators of the pass start (`encodeLoop_decodes`). -/
theorem decodeInvertsEncodeOfPoints : Obligations.DecodeInvertsEncodeOfPoints := by
  intro tab draws pts fixed h hf
  obtain ⟨r', chars, henc, hchars, hdec⟩ := Machine.encodeLoop_decodes h hf ⟨0, 0, 0, draws, []⟩
  obtain ⟨q', hq', hpoints⟩ := hdec .start rfl rfl rfl
  have htext : Machine.encodeText tab draws pts = chars := by
    rw [Machine.encodeText, Machine.encodePass, henc]
    exact hchars
  rw [htext, Machine.decodeText_eq, hq']
  exact congrArg some hpoints

/-- Settles O47: `DecodePass.run_text` from the pass start, `encodeLoop_points` from the empty pass. -/
theorem everyTextEndsAfterAllItsPops : Obligations.EveryTextEndsAfterAllItsPops := by
  refine ⟨fun tab text more => ?decode, fun tab draws pts more => ?encode⟩
  case decode =>
    obtain ⟨r, hend, hcur, hneed⟩ := Machine.DecodePass.run_text tab .start text more
    rw [Machine.textItems, List.append_assoc]
    refine ⟨r, hend, hcur.trans (Nat.zero_add _), ?_⟩
    have start : Machine.DecodePass.start.charsNeeded = 0 := rfl
    rw [Machine.DecodePass.charsNeeded] at hneed
    omega
  case encode =>
    obtain ⟨r, hend, hcur, hlo, hhi⟩ := Machine.encodeLoop_points tab ⟨0, 0, 0, draws, []⟩ pts more
    simp only [List.length_nil, Nat.zero_add] at hcur hlo hhi
    rw [Machine.pointItems, List.append_assoc]
    exact ⟨r, hend, hcur, hlo, hhi⟩

/-- Settles O48: the text ends in a symbol, so its pass is that of its symbols (`DecodePass.run_symbolsOf`). -/
theorem fillersDoNotChangeThePoints : Obligations.FillersDoNotChangeThePoints := by
  intro tab text c hc
  have hsome : (revOf tab c).isSome := Option.isSome_iff_ne_none.mpr hc
  have hsymbols : Machine.symbolsOf tab (text ++ [c]) = Machine.symbolsOf tab text ++ [c] := by
    rw [Machine.symbolsOf, List.filter_append, List.filter_singleton, hsome]
    rfl
  rw [Machine.decodeText_eq, Machine.decodeText_eq,
    Machine.DecodePass.run_symbolsOf tab .start 0 (text ++ [c]) (by simp [hsome]), hsymbols]
  rfl

/-- Settles O49: at the end of the text a filler begins a number that is never complete (`DecodePass.run_trailing`). -/
theorem trailingFillersFail : Obligations.TrailingFillersFail := by
  intro tab text fillers hok hne hf
  rw [Machine.decodeText_eq] at hok ⊢
  exact Machine.DecodePass.run_trailing hne hf .start text hok

end Sys2Proof
end

section
/-! PROOF. The instructions one by one (spec/40_symbol_rom.md to spec/45_sequence_fsm.md). First each command as its one run in `UNIT`;
then a turn of a reader and of the push loop as a record of what changes; the states of the passes; last the statements of the
family, over this machine, which is the case of its own table (`execOf_alphabet`). -/

namespace Sys2Proof

namespace Machine

/-! ## Commands as unit operations -/

/-- The commands of codes 1 to 13, RDNUM with a legal count (R61, R143). -/
def isUnitOp : Instr → Bool
  | .symof _ | .idxof _ | .decnum | .wrnum _ _ | .tofixx _ | .tofixy _ | .todegx _ | .todegy _ | .aclr => true
  | .aadd _ _ | .aload _ _ | .adiff _ _ => true
  | .rdnum n => decide (n ≤ 5#3)
  | _ => false

/-- What a unit operation does in `UNIT` (R145). -/
def unitRun (tab : Config.Table) : Instr → State → Result
  | .symof k, s => .next (s.setResult ((romOf tab k).setWidth 64)).endCommand
  | .idxof c, s => .next (lookupResult tab c s).endCommand
  | .rdnum n, s => runRdnum tab n s
  | .decnum, s => runDecnum tab s
  | .wrnum d a, s => runWrnum tab d a s
  | .tofixx lon, s => .next (returnFixed (toFixedX lon) s)
  | .tofixy lat, s => .next (returnFixed (toFixedY lat) s)
  | .todegx n, s => .next (s.setResult (toDegreesX n)).endCommand
  | .todegy n, s => .next (s.setResult (toDegreesY n)).endCommand
  | .aclr, s => .next (clearAccumulators s).endCommand
  | .aadd a d, s => .next (returnAcc a (addToAcc a d s))
  | .aload a v, s => .next (returnAcc a (s.setAcc a v))
  | .adiff a x, s => .next (s.setResult ((x - s.acc a).setWidth 64)).endCommand
  | _, s => .next s

/-- A unit operation is accepted in `IDLE` and run in `UNIT` (R143, R145). -/
theorem execOf_eq_unitCommand (tab : Config.Table) {i : Instr} (hi : isUnitOp i = true) (s : State) :
    execOf tab i s = unitCommand (unitRun tab i) s := by
  cases i with
  | rdnum n => exact execRdnumOf_allowed (of_decide_eq_true hi)
  | symof _ | idxof _ | decnum | wrnum _ _ | tofixx _ | tofixy _ | todegx _ | todegy _ | aclr | aadd _ _ | aload _ _ | adiff _ _ => rfl
  | _ => cases hi

/-- In `UNIT` a unit operation runs (R145). -/
theorem execOf_unit (tab : Config.Table) {i : Instr} (hi : isUnitOp i = true) {s : State} (h : s.st = .unit) :
    execOf tab i s = unitRun tab i s := by
  rw [execOf_eq_unitCommand tab hi, unitCommand_unit h]

/-- The same of this machine. -/
theorem exec_unit {i : Instr} (hi : isUnitOp i = true) {s : State} (h : s.st = .unit) :
    exec i s = unitRun Config.alphabet i s := by
  rw [← execOf_alphabet, execOf_unit _ hi h]

/-- The decoder rejects a command only for a reserved count (R61, U6). -/
theorem decodeCommand_error {c : Command} {e : DecodeError} (h : decodeCommand c = .error e) :
    e = .reservedCount ∧ c.op = 3 ∧ 5#3 < c.opa.setWidth 3 := by
  unfold decodeCommand at h
  split at h
  case h_4 h3 =>
    split at h
    · next hcount => cases h; exact ⟨rfl, BitVec.eq_of_toNat_eq h3, hcount⟩
    · cases h
  all_goals cases h

/-- Codes 1 to 13 that are not rejected are the unit operations (R61, R143). -/
theorem isUnitOp_of_decodeCommand {c : Command} {i : Instr} (h : decodeCommand c = .ok i) (h1 : 1 ≤ c.op.toNat)
    (h13 : c.op.toNat ≤ 13) : isUnitOp i = true := by
  by_cases h3 : c.op.toNat = 3
  · simp only [decodeCommand, h3] at h
    split at h
    · cases h
    · next hcount => cases h; exact decide_eq_true (BitVec.not_lt.mp hcount)
  · interval_cases hop : c.op.toNat
    all_goals simp only [decodeCommand, hop, not_true_eq_false] at h h3
    all_goals cases h; rfl

/-! ## Turns of the readers -/

/-- Raising at `END`, field by field (R181). -/
theorem raiseBufferExhausted_end {s : State} {rest : List (Item Char8)} (h : s.si = .endTok :: rest) :
    raiseBufferExhausted s =
      { s with err := .bufferExhausted, doneFlag := true, si := rest, st := .idle, upos := .entry } := by
  rw [raiseBufferExhausted, h]; rfl

/-- A state in which a reader looks at SI (R80, R83, R152, R153). -/
def Reading (s : State) : Prop :=
  s.st = .dProbe ∨ s.st = .dExtra ∨ (s.st = .unit ∧ (s.upos = .read ∨ s.upos = .probe ∨ s.upos = .extra))

/-- A reader meets a filler: one pop (R81). -/
theorem readStep_pops {tab : Config.Table} {s : State} {c : Char8} {rest : List (Item Char8)} (hs : Reading s)
    (hsi : s.si = .data c :: rest) (hc : revOf tab c = none) :
    readStep tab s = .next { s with si := rest, cur := s.cur + 1 } := by
  rw [readStep_filler hsi hc, consumeFiller_reading hsi hs]
  rfl

/-- One symbol less to read, and still some to read. -/
theorem cnt_pred_ne_zero {n : BitVec 3} (h : n ≠ 1#3) : n - 1#3 ≠ 0#3 := by
  intro h0
  exact h (by bv_omega)

/-- A symbol that is not the last goes into `NUM` and `CNT` and nothing else changes (R80, R153). -/
theorem afterShift_shiftIn_more (fin : State → State) (i : Index) (rest : List (Item Char8)) {s : State} (h : s.cnt ≠ 1#3) :
    afterShift fin (shiftIn i (s.popSI rest)) =
      { s with si := rest, cur := s.cur + 1, num := s.num <<< 6 ||| i.setWidth 32, cnt := s.cnt - 1#3 } :=
  afterShift_more (cnt_pred_ne_zero h)

/-- The last symbol goes into `NUM`, `CNT` is 0, and the read ends (R80, R153). -/
theorem afterShift_shiftIn_last (fin : State → State) (i : Index) (rest : List (Item Char8)) {s : State} (h : s.cnt = 1#3) :
    afterShift fin (shiftIn i (s.popSI rest)) =
      fin { s with si := rest, cur := s.cur + 1, num := s.num <<< 6 ||| i.setWidth 32, cnt := 0 } := by
  have hshift : shiftIn i (s.popSI rest) =
      { s with si := rest, cur := s.cur + 1, num := s.num <<< 6 ||| i.setWidth 32, cnt := 0 } := by
    rw [shiftIn, State.popSI_cnt, h]; rfl
  rw [hshift]
  exact afterShift_last rfl

/-- DECNUM's result: the tier above the payload, the other bits 0 (R83). -/
theorem decnumResult_eq (t : Tier) (v : Word32) : (t.code ++ v).setWidth 64 = 0#30 ++ (t.code ++ v) :=
  BitVec.setWidth_eq_append (by decide)

/-- The end of DECNUM, field by field (R83). -/
theorem finishDecnum_eq (s : State) : finishDecnum s =
    { s with res := 0#30 ++ (s.tier.code ++ payloadOf s.tier s.p s.num), resv := true, doneFlag := true, st := .idle,
             upos := .entry } := by
  rw [finishDecnum, decnumResult_eq]; rfl

/-! ## Turns of the push loop -/

/-- A symbol that is not the last is pushed and shifted out (R100, R163). -/
theorem afterPush_shiftOut_more (tab : Config.Table) (fin : State → State) {s : State} (h : s.ocnt ≠ 1#3) :
    afterPush fin (shiftOut tab s) =
      { s with so := s.so ++ [romOf tab (s.osr.extractLsb' 24 6)], osr := s.osr <<< 6, ocnt := s.ocnt - 1#3 } :=
  afterPush_more (cnt_pred_ne_zero h)

/-- The last symbol is pushed, `OCNT` is 0, and the emission ends (R100, R163). -/
theorem afterPush_shiftOut_last (tab : Config.Table) (fin : State → State) {s : State} (h : s.ocnt = 1#3) :
    afterPush fin (shiftOut tab s) =
      fin { s with so := s.so ++ [romOf tab (s.osr.extractLsb' 24 6)], osr := s.osr <<< 6, ocnt := 0 } := by
  have hshift : shiftOut tab s =
      { s with so := s.so ++ [romOf tab (s.osr.extractLsb' 24 6)], osr := s.osr <<< 6, ocnt := 0 } := by
    rw [shiftOut, h]; rfl
  rw [hshift]
  exact afterPush_last rfl

/-- With the sink ready the push loop pushes (R37, R100). -/
theorem pushLoop_ready (tab : Config.Table) (n : BitVec 3) {s : State} (h : s.soReady = true) :
    pushLoop tab n s = .next (afterPush (fun t => (t.setResult (n.setWidth 64)).endCommand) (shiftOut tab s)) := if_pos h

/-- Without the sink the push loop waits (R37). -/
theorem pushLoop_waits (tab : Config.Table) (n : BitVec 3) {s : State} (h : s.soReady = false) :
    pushLoop tab n s = .next s := if_neg (by simp [h])

/-- With the sink ready `E_SHX` and `E_SHY` push (R163, R164). -/
theorem encodeShift_ready (tab : Config.Table) (after : FsmState) {s : State} (h : s.soReady = true) :
    encodeShift tab after s = .next (afterPush (fun t => { t with st := after }) (shiftOut tab s)) := if_pos h

/-- Without the sink `E_SHX` and `E_SHY` wait (R37). -/
theorem encodeShift_waits (tab : Config.Table) (after : FsmState) {s : State} (h : s.soReady = false) :
    encodeShift tab after s = .next s := if_neg (by simp [h])

/-- A turn of `E_SHX` or `E_SHY` with the sink ready, field by field (R163, R164). -/
theorem encodeShift_effect (tab : Config.Table) (after : FsmState) {s : State} (h : s.soReady = true) :
    encodeShift tab after s = .next
      { s with so := s.so ++ [romOf tab (s.osr.extractLsb' 24 6)], osr := s.osr <<< 6, ocnt := s.ocnt - 1#3,
               st := if s.ocnt = 1#3 then after else s.st } := by
  rw [encodeShift_ready tab after h]
  by_cases h1 : s.ocnt = 1#3
  · rw [afterPush_shiftOut_last tab _ h1, if_pos h1, h1]; rfl
  · rw [afterPush_shiftOut_more tab _ h1, if_neg h1]

/-! ## The runs of RDNUM, DECNUM and WRNUM -/

/-- RDNUM of no symbols ends at once (R80, D21). -/
theorem runRdnum_zero (tab : Config.Table) {s : State} (hu : s.upos = .entry) :
    runRdnum tab 0#3 s = .next (finishRdnum { s with num := 0, cnt := 0 }) := by
  rw [runRdnum, hu]; exact if_pos rfl

/-- RDNUM's first step clears `NUM` and loads `CNT` (R80). -/
theorem runRdnum_entry (tab : Config.Table) {n : BitVec 3} {s : State} (hu : s.upos = .entry) (hn : n ≠ 0#3) :
    runRdnum tab n s = .next { s with num := 0, cnt := n, upos := .read } := by
  rw [runRdnum, hu]; exact if_neg hn

/-- After its first step RDNUM reads (R80). -/
theorem runRdnum_reads (tab : Config.Table) (n : BitVec 3) {s : State} (hu : s.upos ≠ .entry) :
    runRdnum tab n s = readStep tab s := by
  unfold runRdnum; split <;> simp_all

/-- DECNUM's first step asks for the probe (R83). -/
theorem runDecnum_entry (tab : Config.Table) {s : State} (hu : s.upos = .entry) :
    runDecnum tab s = .next { s with num := 0, cnt := 1, upos := .probe } := by
  rw [runDecnum, hu]

/-- After its first step DECNUM reads (R83). -/
theorem runDecnum_reads (tab : Config.Table) {s : State} (hu : s.upos ≠ .entry) : runDecnum tab s = readStep tab s := by
  unfold runDecnum; split <;> simp_all

/-- WRNUM's first step loads the word (R100). -/
theorem runWrnum_entry (tab : Config.Table) (d a : Word32) {s : State} (hu : s.upos = .entry) :
    runWrnum tab d a s = .next { loadEncoder d a s with upos := .shift } := by
  rw [runWrnum, hu]

/-- After its first step WRNUM pushes (R100). -/
theorem runWrnum_pushes (tab : Config.Table) (d a : Word32) {s : State} (hu : s.upos ≠ .entry) :
    runWrnum tab d a s = pushLoop tab (encoderCount d) s := by
  unfold runWrnum; split <;> simp_all

/-! ## The number forms and the characters of a pass -/

/-- A character's instruction does what a reader's turn does (R50, R58). -/
theorem execOf_charInstrOf {tab : Config.Table} {s : State} {c : Char8} {rest : List (Item Char8)} (h : s.si = .data c :: rest) :
    execOf tab (charInstrOf tab c) s = readStep tab s := by
  cases hc : revOf tab c with
  | none => rw [charInstrOf_of_none hc, readStep_filler h hc]; rfl
  | some i => rw [charInstrOf_of_some hc, readStep_symbol h hc, execOf_symInstr]

/-- The field of SETF fits its 28 bits (R54, R55). -/
theorem rawField_full_lt (p : Index) (e : Word32) : (rawField .full p e).toNat < 2 ^ 28 := by
  have hp : (p &&& 0xF#6).toNat ≤ 15 := Nat.and_le_right
  have hlow := (e.setWidth 24).isLt
  rw [rawField, BitVec.toNat_or]
  refine Nat.or_lt_two_pow ?_ ?_
  · rw [BitVec.toNat_shiftLeft, BitVec.toNat_setWidth_of_le (by decide), Nat.shiftLeft_eq]
    omega
  · rw [BitVec.toNat_setWidth_of_le (by decide)]
    omega

/-- A biased field as an integer and as a word give one delta (R55). -/
theorem ofInt_sub_bias (f : Word32) (bias : Nat) : BitVec.ofInt 32 ((f.toNat : Int) - bias) = f - BitVec.ofNat 32 bias := by
  rw [sub_eq_add_neg, BitVec.ofInt_add, BitVec.ofInt_neg, BitVec.ofInt_natCast, BitVec.ofInt_natCast, BitVec.ofNat_toNat,
    BitVec.setWidth_eq, ← BitVec.sub_eq_add_neg]

/-- In `D_APPLY` the number form in the latches does what the latches do (R84 to R86, R154). -/
theorem execOf_formOf (tab : Config.Table) {s : State} (h : s.st = .dApply) :
    execOf tab (formOf s.tier s.p s.num) s = .next (applyLatches s) := by
  have apply (act : State → State) : inApply act s = .next (act s) := by rw [inApply, h]
  cases ht : s.tier with
  | small =>
    change inApply (applyDelta _) s = _
    rw [ofInt_sub_bias, apply, applyLatches, ht]; rfl
  | medium =>
    change inApply (applyDelta _) s = _
    rw [ofInt_sub_bias, apply, applyLatches, ht]; rfl
  | full =>
    have value : ((rawField .full s.p s.num).setWidth 28).setWidth 32 = rawField .full s.p s.num := by
      have := rawField_full_lt s.p s.num
      apply BitVec.eq_of_toNat_eq
      rw [BitVec.toNat_setWidth_of_le (by decide), BitVec.toNat_setWidth]
      omega
    change inApply (applyAbsolute _) s = _
    rw [value, apply, applyLatches, ht]; rfl

/-! ## The states of the passes -/

theorem execOf_decode_dNext (tab : Config.Table) {s : State} (h : s.st = .dNext) : execOf tab .decode s = decodeNext s := by
  rw [execOf, execDecodeOf, h]

theorem execOf_decode_reading (tab : Config.Table) {s : State} (h : s.st = .dProbe ∨ s.st = .dExtra) :
    execOf tab .decode s = readStep tab s := by
  rcases h with h | h <;> rw [execOf, execDecodeOf, h]

theorem execOf_decode_dApply (tab : Config.Table) {s : State} (h : s.st = .dApply) :
    execOf tab .decode s = .next (applyLatches s) := by
  rw [execOf, execDecodeOf, h]

theorem execOf_decode_dEmit (tab : Config.Table) {s : State} (h : s.st = .dEmit) : execOf tab .decode s = decodeEmit s := by
  rw [execOf, execDecodeOf, h]

theorem execOf_encode_eNext (tab : Config.Table) {s : State} (h : s.st = .eNext) : execOf tab .encode s = encodeNext s := by
  rw [execOf, execEncodeOf, h]

theorem execOf_encode_eNumX (tab : Config.Table) {s : State} (h : s.st = .eNumX) :
    execOf tab .encode s = .next { loadEncoder (s.fx - s.ax) s.fx s with st := .eShX } := by
  rw [execOf, execEncodeOf, h]

theorem execOf_encode_eShX (tab : Config.Table) {s : State} (h : s.st = .eShX) :
    execOf tab .encode s = encodeShift tab .eNumY s := by
  rw [execOf, execEncodeOf, h]

theorem execOf_encode_eNumY (tab : Config.Table) {s : State} (h : s.st = .eNumY) :
    execOf tab .encode s = .next { loadEncoder (s.fy - s.ay) s.fy s with st := .eShY } := by
  rw [execOf, execEncodeOf, h]

theorem execOf_encode_eShY (tab : Config.Table) {s : State} (h : s.st = .eShY) :
    execOf tab .encode s = encodeShift tab .eUpd s := by
  rw [execOf, execEncodeOf, h]

theorem execOf_encode_eUpd (tab : Config.Table) {s : State} (h : s.st = .eUpd) :
    execOf tab .encode s = .next { s with ax := s.fx, ay := s.fy, st := .eNext } := by
  rw [execOf, execEncodeOf, h]

end Machine

open Sys2Proof.Machine Sys2Proof.Safety

/-! ## The symbol codec -/

/-- The found characters are as many as the table's entries (R70, R71, R76). -/
theorem card_found {tab : Config.Table} (h : Config.Admissible tab) :
    ((List.range 256).filter fun k => (revOf tab (BitVec.ofNat 8 k)).isSome).length = 64 := by
  have hnodup : ((List.range 256).filter fun k => (revOf tab (BitVec.ofNat 8 k)).isSome).Nodup :=
    List.nodup_range.filter _
  have mem_found (k : Nat) : k ∈ ((List.range 256).filter fun k => (revOf tab (BitVec.ofNat 8 k)).isSome).toFinset ↔
      k < 256 ∧ (revOf tab (BitVec.ofNat 8 k)).isSome = true := by
    rw [List.mem_toFinset, List.mem_filter, List.mem_range]
  rw [← List.toFinset_card_of_nodup hnodup, ← Finset.card_range 64]
  refine Finset.card_nbij' (fun k => ((revOf tab (BitVec.ofNat 8 k)).getD 0).toNat) (fun i => (romOf tab (BitVec.ofNat 6 i)).toNat)
    (fun k hk => ?index) (fun i hi => ?character) (fun k hk => ?romOfRev) (fun i hi => ?revOfRom)
  case index => exact Finset.mem_range.mpr (BitVec.isLt _)
  case character =>
    refine (mem_found _).mpr ⟨BitVec.isLt _, ?_⟩
    rw [BitVec.ofNat_toNat, BitVec.setWidth_eq, h.revOf_romOf]
    rfl
  case romOfRev =>
    obtain ⟨hlt, hsome⟩ := (mem_found k).mp hk
    obtain ⟨i, hi⟩ := Option.isSome_iff_exists.mp hsome
    simp only [hi, Option.getD_some, BitVec.ofNat_toNat, BitVec.setWidth_eq, romOf_of_revOf h.length_eq hi]
    exact Nat.mod_eq_of_lt hlt
  case revOfRom =>
    simp only [BitVec.ofNat_toNat, BitVec.setWidth_eq, h.revOf_romOf, Option.getD_some]
    exact Nat.mod_eq_of_lt (Finset.mem_range.mp hi)

/-- IDXOF after SYMOF finds the index (40_symbol_rom.md, section 4). -/
theorem idxof_after_symof {tab : Config.Table} (h : Config.Admissible tab) (i : Index) (s : State) (hs : s.st = .unit) :
    ∃ t u, execOf tab (.symof i) s = .next t ∧ execOf tab (.idxof (t.res.setWidth 8)) { t with st := .unit } = .next u ∧
      u.res = i.setWidth 64 ∧ u.resv = true := by
  refine ⟨_, _, execOf_symof_unit tab i hs, execOf_idxof_unit tab _ rfl, ?_⟩
  have hfound : revOf tab (((romOf tab i).setWidth 64).setWidth 8) = some i := by
    rw [setWidth_setWidth_64 (by decide), h.revOf_romOf]
  exact (congrArg (fun t : State => t.endCommand.res = i.setWidth 64 ∧ t.endCommand.resv = true)
    (lookupResult_of_some hfound _)).mpr ⟨rfl, rfl⟩

/-- SYMOF after IDXOF finds the character (40_symbol_rom.md, section 4). -/
theorem symof_after_idxof {tab : Config.Table} (h : Config.Admissible tab) (c : Char8) (i : Index) (s : State) (hs : s.st = .unit)
    (hc : revOf tab c = some i) :
    ∃ t u, execOf tab (.idxof c) s = .next t ∧ execOf tab (.symof (t.res.setWidth 6)) { t with st := .unit } = .next u ∧
      u.res = c.setWidth 64 := by
  refine ⟨_, _, (execOf_idxof_effect tab c s hs).1 i hc, execOf_symof_unit tab _ rfl, ?_⟩
  change (romOf tab ((i.setWidth 64).setWidth 6)).setWidth 64 = _
  rw [setWidth_setWidth_64 (by decide), romOf_of_revOf h.length_eq hc]

/-- Settles O3: `card_found`, `idxof_after_symof`, `symof_after_idxof`, of which this machine is the case of its own table. -/
theorem symbolCodecIsABijection : Obligations.SymbolCodecIsABijection := by
  refine ⟨fun i s hs => ?symof, fun c i s hs hc => ?idxof, fun _ h => ⟨card_found h, idxof_after_symof h, symof_after_idxof h⟩⟩
  case symof =>
    simp only [← execOf_alphabet]
    exact idxof_after_symof alphabet_admissible i s hs
  case idxof =>
    simp only [← execOf_alphabet]
    exact symof_after_idxof alphabet_admissible c i s hs hc

/-! ## Steps and fetched instructions -/

/-- A run stops at a refusal, on any machine of the host. -/
theorem core_run_refused {M : Host.Core} {n : Nat} {s : M.State} {r : M.Refusal} (hs : M.step s = .refused r) :
    M.run (n + 1) s = .refused r := by
  rw [Host.Core.run, hs]

/-- A run over the table of R74 is a run of the machine. -/
theorem runOf_alphabet (n : Nat) (s : State) : runOf Config.alphabet n s = Sys2Proof.core.run n s := by
  induction n generalizing s with
  | zero => rfl
  | succ n ih =>
    rw [runOf, stepOf_alphabet]
    cases hs : step s with
    | next t => exact (ih t).trans (core_run_succ (M := Sys2Proof.core) hs).symm
    | fault r => cases r
    | refused r => exact (core_run_refused (M := Sys2Proof.core) hs).symm

/-- A step is that of the machine over its own table. -/
theorem step_eq_stepOf (s : State) : step s = stepOf Config.alphabet s := (stepOf_alphabet s).symm

/-- Settles O12: each state's fetch, by the laws of a step (`stepOf_idle`, `stepOf_unit`, `stepOf_char`, ...). -/
theorem stepRunsTheFetchedInstruction : Obligations.StepRunsTheFetchedInstruction := by
  refine ⟨fun s hr => ?machine, fun tab s hr => ⟨?_, ?_, ?_⟩, execOf_alphabet, stepOf_alphabet,
    fun n s t => by rw [RunsToOf, RunsTo, runOf_alphabet]; exact Iff.rfl⟩
  case machine =>
    simp only [step_eq_stepOf, ← execOf_alphabet]
    refine ⟨stepOf_idle_none hr, fun _ _ hs hp hd => stepOf_idle hr hs hp hd, fun _ hs hd => stepOf_unit hr hs hd,
      fun _ _ hs hsi => stepOf_char hr hs hsi, fun hs _ => ?reading, stepOf_dApply hr, fun hs => ?boundary, fun hs => ?encode⟩
    case reading => rw [stepOf_reading hr hs, execOf_decode_reading _ hs]
    case boundary =>
      rcases hs with hs | hs
      · rw [stepOf_dNext hr hs, execOf_decode_dNext _ hs]
      · rw [stepOf_dEmit hr hs, execOf_decode_dEmit _ hs]
    case encode =>
      rcases hs with hs | hs | hs | hs | hs | hs
      · rw [stepOf_eNext hr hs, execOf_encode_eNext _ hs]
      · rw [stepOf_eNumX hr hs, execOf_encode_eNumX _ hs]
      · rw [stepOf_eShX hr hs, execOf_encode_eShX _ hs]
      · rw [stepOf_eNumY hr hs, execOf_encode_eNumY _ hs]
      · rw [stepOf_eShY hr hs, execOf_encode_eShY _ hs]
      · rw [stepOf_eUpd hr hs, execOf_encode_eUpd _ hs]
  · exact fun _ _ hs hp hd => stepOf_idle hr hs hp hd
  · exact fun _ hs hd => stepOf_unit hr hs hd
  · exact fun _ _ hs hsi => stepOf_char hr hs hsi

/-- Settles O13: a turn of the reader (`execOf_charInstrOf`) and the number in the latches (`execOf_formOf`). -/
theorem decodeRunsItsTextsInstructions : Obligations.DecodeRunsItsTextsInstructions := by
  intro s
  simp only [← execOf_alphabet, charInstr]
  exact ⟨fun _ _ hs hsi => (execOf_decode_reading _ hs).trans (execOf_charInstrOf hsi).symm,
    fun hs => (execOf_decode_dApply _ hs).trans (execOf_formOf _ hs).symm⟩

/-! ## Command acceptance -/

/-- Settles O14: codes 1 to 13 are unit operations (`isUnitOp_of_decodeCommand`), which `IDLE` accepts. -/
theorem unitCommandsAreAccepted : Obligations.UnitCommandsAreAccepted := by
  intro s c i hs hp hd h1 h13
  rw [← execOf_alphabet, execOf_eq_unitCommand _ (isUnitOp_of_decodeCommand hd h1 h13), unitCommand_idle hs hp]
  rfl

/-- Settles O15: the pass start on what acceptance leaves (`exec_decode_idle`, `exec_encode_idle`). -/
theorem passStartClearsEverything : Obligations.PassStartClearsEverything :=
  fun _ _ hs hp => ⟨fun _ => exec_decode_idle hs hp, fun _ => exec_encode_idle hs hp⟩

/-- NOP in `IDLE` leaves the port (R144). -/
theorem exec_nop_idle {s : State} (h : s.st = .idle) : exec .nop s = .next { s with port := none } := by
  change execNop s = _
  rw [execNop, h]

/-- Settles O16: `exec_nop_idle`. -/
theorem nopChangesNothing : Obligations.NopChangesNothing := ⟨fun _ _ => rfl, fun _ h => exec_nop_idle h⟩

/-- A reserved count is rejected by the decoder (R61, U6). -/
theorem decodeCommand_reserved {c : Command} (hop : c.op = 3#4) (h : 5#3 < c.opa.setWidth 3) :
    decodeCommand c = .error .reservedCount := by
  simp only [decodeCommand, hop]
  exact if_pos h

/-- A rejected command is refused in `IDLE` and in `UNIT` (U6, log 9). -/
theorem stepOf_rejected (tab : Config.Table) {s : State} {c : Command} {e : DecodeError} (hr : s.rst = false)
    (hc : (s.st = .idle ∧ s.port = some c) ∨ (s.st = .unit ∧ s.cmd = c)) (hd : decodeCommand c = .error e) :
    stepOf tab s = .refused (refusalOf e) := by
  obtain ⟨hs, hp⟩ | ⟨hs, hp⟩ := hc <;> simp only [stepOf_of_fetch hr, fetchOf, hs, hp, fetchCommand, hd]

/-- Settles O18: the decoder's rejection (`decodeCommand_reserved`), which a step turns into the refusal. -/
theorem reservedCountsAreRefused : Obligations.ReservedCountsAreRefused := by
  intro n s hn
  refine ⟨fun opa opb h => decodeCommand_reserved rfl (by rwa [h]), fun hs => if_pos ⟨hn, hs⟩, fun c hr hop hcount => ?step⟩
  have hd := decodeCommand_reserved hop (by rwa [hcount])
  rw [step_eq_stepOf]
  exact ⟨fun hs hp => stepOf_rejected _ hr (.inl ⟨hs, hp⟩) hd, fun hs hc => stepOf_rejected _ hr (.inr ⟨hs, hc⟩) hd⟩

/-! ## The number codec in `UNIT` -/

/-- Settles O21: the first step is `runRdnum`'s, every later one a turn of the reader. -/
theorem rdnumReadsSymbols : Obligations.RdnumReadsSymbols := by
  intro n s hn hs
  rw [exec_unit (i := .rdnum n) (decide_eq_true hn) hs]
  refine ⟨?zero, runRdnum_entry _, fun hu hsi => ?wait, fun rest hu hsi => ?raise, fun c rest hu hsi hc => ?filler,
    fun c rest i hu hsi hc hcnt => ?more, fun c rest i hu hsi hc hcnt => ?last⟩
  case zero => rintro hu rfl; exact runRdnum_zero _ hu
  all_goals
    have hread : unitRun Config.alphabet (.rdnum n) s = readStep Config.alphabet s := runRdnum_reads _ n (by simp [hu])
    rw [hread]
  case wait => exact readStep_nil hsi
  case raise => rw [readStep_end hsi, raiseBufferExhausted_end hsi]
  case filler => exact readStep_pops (.inr (.inr ⟨hs, .inl hu⟩)) hsi hc
  case more => rw [readStep_symbol hsi hc, consumeSymbol_read hsi hs hu, afterShift_shiftIn_more _ _ _ hcnt]
  case last => rw [readStep_symbol hsi hc, consumeSymbol_read hsi hs hu, afterShift_shiftIn_last _ _ _ hcnt]; rfl

/-- Settles O22: the first step is `runDecnum`'s, every later one a turn of the reader. -/
theorem decnumReadsANumber : Obligations.DecnumReadsANumber := by
  intro s hs
  rw [exec_unit rfl hs]
  have hread (hu : s.upos = .probe ∨ s.upos = .extra) : unitRun Config.alphabet .decnum s = readStep Config.alphabet s :=
    runDecnum_reads _ (by rcases hu with hu | hu <;> simp [hu])
  refine ⟨runDecnum_entry _, fun hu hsi => ?wait, fun rest hu hsi => ?raise, fun c rest hu hsi hc => ?filler,
    fun c rest i hu hsi hc => ?probe, fun c rest i hu hsi hc hcnt => ?more, fun c rest i hu hsi hc hcnt => ?last⟩
  case wait => rw [hread hu, readStep_nil hsi]
  case raise => rw [hread hu, readStep_end hsi, raiseBufferExhausted_end hsi]
  case filler => rw [hread hu, readStep_pops (.inr (.inr ⟨hs, .inr hu⟩)) hsi hc]
  case probe => rw [hread (.inl hu), readStep_symbol hsi hc, consumeSymbol_probe hsi hs hu]; rfl
  case more =>
    rw [hread (.inr hu), readStep_symbol hsi hc, consumeSymbol_extra hsi hs hu, afterShift_shiftIn_more _ _ _ hcnt]
  case last =>
    rw [hread (.inr hu), readStep_symbol hsi hc, consumeSymbol_extra hsi hs hu, afterShift_shiftIn_last _ _ _ hcnt,
      finishDecnum_eq]

/-- Settles O24: the first step is `runWrnum`'s, every later one a turn of the push loop. -/
theorem wrnumPushesSymbols : Obligations.WrnumPushesSymbols := by
  intro d a s hs
  rw [exec_unit rfl hs]
  have hpush (hu : s.upos = .shift) : unitRun Config.alphabet (.wrnum d a) s = pushLoop Config.alphabet (encoderCount d) s :=
    runWrnum_pushes _ d a (by simp [hu])
  refine ⟨runWrnum_entry _ d a, fun hu hready => ?wait, fun hu hready hcnt => ?more, fun hu hready hcnt => ?last⟩
  case wait => rw [hpush hu, pushLoop_waits _ _ hready]
  case more => rw [hpush hu, pushLoop_ready _ _ hready, afterPush_shiftOut_more _ _ hcnt]; rfl
  case last => rw [hpush hu, pushLoop_ready _ _ hready, afterPush_shiftOut_last _ _ hcnt]; rfl

/-! ## The transform in `UNIT` -/

/-- A transform with a value returns it (R113, R114). -/
theorem returnFixed_some {r : Option Word32} {v : Word32} (h : r = some v) (s : State) :
    returnFixed r s =
      { s with res := v.setWidth 64, resv := true, doneFlag := true, st := .idle, upos := .entry } := by
  subst h; rfl

/-- A transform without one returns the next free value (R116). -/
theorem returnFixed_none {r : Option Word32} (h : r = none) (s : State) :
    returnFixed r s = { s with res := (Config.any32 s.draws).setWidth 64, draws := s.draws + 1, resv := true, doneFlag := true,
                               st := .idle, upos := .entry } := by
  subst h; rfl

/-- Settles O31: `returnFixed_some`, `returnFixed_none`, for both axes. -/
theorem tofixReturnsTheFixedValue : Obligations.TofixReturnsTheFixedValue := by
  intro w s hs
  rw [exec_unit rfl hs, exec_unit rfl hs]
  exact ⟨fun v h => congrArg Host.Outcome.next (returnFixed_some h s), fun h => congrArg Host.Outcome.next (returnFixed_none h s),
    fun v h => congrArg Host.Outcome.next (returnFixed_some h s), fun h => congrArg Host.Outcome.next (returnFixed_none h s)⟩

/-- An integer of the s32 range is one word's signed value. -/
theorem ofInt_eq_iff_toInt_eq {z : Int} {v : Word32} (h0 : -2147483648 ≤ z) (h1 : z ≤ 2147483647) :
    BitVec.ofInt 32 z = v ↔ v.toInt = z := by
  have hz : (BitVec.ofInt 32 z).toInt = z := by rw [BitVec.toInt_ofInt, Int.bmod_eq_of_le (by omega) (by omega)]
  rw [← BitVec.toInt_inj, hz, eq_comm]

/-- The formula has a value exactly where its quotient is finite and rounds to an s32 (R113, R114, R116). -/
theorem toFixed_eq_some_iff (w : Word64) (offset span : Nat) (v : Word32) :
    toFixed w offset span = some v ↔ ∃ neg m e,
      fdiv (fmul (fadd (unpack w) (ofInt offset)) (ofInt 268435456)) (ofInt span) = .fin neg m e ∧
        -2147483648 ≤ roundAway neg m e ∧ roundAway neg m e ≤ 2147483647 ∧ v.toInt = roundAway neg m e := by
  have hone : (2 ^ Config.fixedBits : Int) = 268435456 := rfl
  rw [toFixed, hone]
  cases fdiv (fmul (fadd (unpack w) (ofInt offset)) (ofInt 268435456)) (ofInt span) with
  | nan => simp
  | inf neg => simp
  | fin neg m e =>
    simp only [F64.fin.injEq]
    constructor
    · intro h
      split at h
      · cases h
      · next hrange =>
        have hv := (ofInt_eq_iff_toInt_eq (by omega) (by omega)).mp (Option.some.inj h)
        exact ⟨neg, m, e, ⟨rfl, rfl, rfl⟩, by omega, by omega, hv⟩
    · rintro ⟨_, _, _, ⟨rfl, rfl, rfl⟩, h0, h1, hv⟩
      rw [if_neg (by omega), (ofInt_eq_iff_toInt_eq h0 h1).mpr hv]

/-- Settles O32: `toFixed_eq_some_iff` at the constants of each axis. -/
theorem tofixFollowsTheFormula : Obligations.TofixFollowsTheFormula :=
  ⟨fun w v => toFixed_eq_some_iff w 180 360 v, fun w v => toFixed_eq_some_iff w 90 180 v⟩

/-! ## The accumulators -/

/-- A 32-bit result is returned zero-extended (R132 to R134). -/
theorem setWidth_ofNat_64 (n : Nat) : (BitVec.ofNat 32 n).setWidth 64 = BitVec.ofNat 64 (n % 2 ^ 32) := by
  apply BitVec.eq_of_toNat_eq
  simp only [BitVec.toNat_setWidth, BitVec.toNat_ofNat]

/-- Settles O39: each operation's run in `UNIT`, its result written modulo 2^32. -/
theorem accumulatorOperations : Obligations.AccumulatorOperations := by
  refine ⟨fun _ _ => ⟨rfl, rfl, rfl⟩, fun v s hs => ?_⟩
  have difference (acc : Word32) : v - acc = BitVec.ofNat 32 (v.toNat + (2 ^ 32 - acc.toNat)) := by
    rw [BitVec.sub_def, Nat.add_comm]
  simp only [← setWidth_ofNat_64, ← difference]
  exact ⟨exec_unit (i := .aadd .x v) rfl hs, exec_unit (i := .aadd .y v) rfl hs, exec_unit (i := .aload .x v) rfl hs,
    exec_unit (i := .aload .y v) rfl hs, exec_unit (i := .adiff .x v) rfl hs, exec_unit (i := .adiff .y v) rfl hs⟩

/-! ## The number forms and the symbols -/

/-- Settles O40: with the axis known, a number form in `D_APPLY` writes that accumulator and `afterApply` moves on. -/
theorem numberFormsUpdateTheAccumulator : Obligations.NumberFormsUpdateTheAccumulator := by
  rintro ⟨st, upos, ax, ay, axis, _⟩ hs
  obtain rfl : st = .dApply := hs
  simp only [BitVec.ofNat_toNat]
  refine ⟨fun d v hax => ?x, fun d v hax => ?y⟩
  case x => obtain rfl : axis = .x := hax; exact ⟨rfl, rfl, rfl⟩
  case y => obtain rfl : axis = .y := hax; exact ⟨rfl, rfl, rfl⟩

/-- The rows are the symbol instructions of their indices (R74). -/
theorem symbolRows_symInstr : ∀ r ∈ symbolRows, r.1 = symInstr r.2 := by decide +kernel

/-- Settles O41: a row is the symbol instruction of its index, which consumes that index (`execOf_symInstr`). -/
theorem symbolsCarrySixBits : Obligations.SymbolsCarrySixBits := by
  rintro ⟨ins, i⟩ hr s c rest hsi
  obtain rfl : ins = symInstr i := symbolRows_symInstr _ hr
  simp only [← execOf_alphabet, execOf_symInstr]
  refine ⟨decodeOf_romOf alphabet_admissible i, fun hs => ?dProbe, fun hs => ?dExtra, fun hs hu => ?probe, fun hs hu hcnt => ?more,
    fun hs hu hcnt => ?lastRead, fun hs hu hcnt => ?lastExtra⟩
  case dProbe => exact consumeSymbol_dProbe hsi hs
  case dExtra =>
    rw [consumeSymbol_dExtra hsi hs]
    by_cases hcnt : s.cnt = 1#3
    · rw [afterShift_shiftIn_last _ _ _ hcnt, if_pos hcnt, hcnt]; rfl
    · rw [afterShift_shiftIn_more _ _ _ hcnt, if_neg hcnt, ← hs]
  case probe => exact consumeSymbol_probe hsi hs hu
  case more =>
    obtain hu | hu := hu
    · rw [consumeSymbol_read hsi hs hu, afterShift_shiftIn_more _ _ _ hcnt]
    · rw [consumeSymbol_extra hsi hs hu, afterShift_shiftIn_more _ _ _ hcnt]
  case lastRead => rw [consumeSymbol_read hsi hs hu, afterShift_shiftIn_last _ _ _ hcnt]; rfl
  case lastExtra => rw [consumeSymbol_extra hsi hs hu, afterShift_shiftIn_last _ _ _ hcnt, finishDecnum_eq]

/-! ## The states of the passes -/

/-- Settles O42: `decodeNext`, `decodeEmit` and the reader's turn, on each head of SI. -/
theorem decodeStatesFollowTheTable : Obligations.DecodeStatesFollowTheTable := by
  intro s
  simp only [← execOf_alphabet]
  refine ⟨fun hs hsi => ?nextWait, fun rest hs hsi => ?nextEnd, fun c rest hs hsi => ?nextData, fun hs hp => ?emit,
    fun hs hp => ?emitWait,
    fun hs hsi => ?readWait, fun rest hs hsi => ?readEnd⟩
  case nextWait => rw [execOf_decode_dNext _ hs, decodeNext, hsi]
  case nextEnd => rw [execOf_decode_dNext _ hs, decodeNext, hsi]; rfl
  case nextData => rw [execOf_decode_dNext _ hs, decodeNext, hsi]
  case emit => rw [execOf_decode_dEmit _ hs]; exact if_pos hp
  case emitWait => rw [execOf_decode_dEmit _ hs]; exact if_neg (by simp [hp])
  case readWait => rw [execOf_decode_reading _ hs, readStep_nil hsi]
  case readEnd => rw [execOf_decode_reading _ hs, readStep_end hsi, raiseBufferExhausted_end hsi]

/-- Settles O43: `encodeNext` on each head of PI and each value of the transforms, the loads, the pushes, the update. -/
theorem encodeStatesFollowTheTable : Obligations.EncodeStatesFollowTheTable := by
  intro s
  simp only [← execOf_alphabet]
  refine ⟨fun hs hpi => ?wait, fun rest hs hpi => ?done, fun pt rest x y hs hpi hx hy => ?both, fun pt rest hs hpi hx hy => ?free,
    fun pt rest x hs hpi hx hy => ?freeY, fun pt rest y hs hpi hx hy => ?freeX, fun hs => ?numX, fun hs => ?numY,
    fun hs hready => ?shX, fun hs hready => ?shY, fun hs hready => ?shWait, fun hs => ?upd⟩
  case wait => rw [execOf_encode_eNext _ hs, encodeNext, hpi]
  case done => rw [execOf_encode_eNext _ hs, encodeNext, hpi]; rfl
  case both | free | freeY | freeX =>
    rw [execOf_encode_eNext _ hs, encodeNext, hpi]
    simp only [hx, hy]
    rfl
  case numX => exact execOf_encode_eNumX _ hs
  case numY => exact execOf_encode_eNumY _ hs
  case shX => rw [execOf_encode_eShX _ hs, encodeShift_effect _ _ hready, hs]; rfl
  case shY => rw [execOf_encode_eShY _ hs, encodeShift_effect _ _ hready, hs]; rfl
  case shWait =>
    rcases hs with hs | hs
    · rw [execOf_encode_eShX _ hs, encodeShift_waits _ _ hready]
    · rw [execOf_encode_eShY _ hs, encodeShift_waits _ _ hready]
  case upd => exact execOf_encode_eUpd _ hs

/-! ## Reset -/

/-- Settles O51: `State.reset`, field by field. -/
theorem resetLeavesTheListedValues : Obligations.ResetLeavesTheListedValues := by
  unfold Obligations.ResetLeavesTheListedValues
  decide

/-- Settles O52: `resetRegisters`, which a step with `rst` high takes (`stepOf_reset`). -/
theorem resetStepClearsTheRegisters : Obligations.ResetStepClearsTheRegisters := by
  intro s hr
  rw [step_eq_stepOf, stepOf_reset hr]
  exact ⟨_, rfl, rfl, rfl, rfl, rfl, rfl, rfl, rfl, rfl, rfl, rfl, rfl, rfl, rfl, rfl, rfl, rfl, rfl, rfl, rfl, rfl, rfl⟩

/-- Settles O53: no table is asked at reset, where SO is empty. -/
theorem resetIsSafe : Obligations.ResetIsSafe := ⟨⟨rfl, rfl, rfl, rfl⟩, fun _ => ⟨rfl, rfl, rfl, rfl⟩⟩

end Sys2Proof
end

section
/-! PROOF. The steps of a good state (spec/45_sequence_fsm.md R167). First, once, everything a step can do from a state whose latches
fit its FSM state (`Moves`, `stepOf_moves`); then what each move does to the invariant, the flags and the streams; last the
statements of the family. -/

namespace Sys2Proof

namespace Machine

open Sys2Proof.Safety

/-! ## Commands by their codes -/

/-- Code 3 with a legal count is RDNUM (R61). -/
theorem decodeCommand_op3 {c : Command} (hop : c.op = 3#4) (h : (c.opa.setWidth 3).toNat ≤ 5) :
    decodeCommand c = .ok (.rdnum (c.opa.setWidth 3)) := by
  simp only [decodeCommand, hop]
  exact if_neg (BitVec.not_lt.mpr (BitVec.le_def.mpr h))

/-- Code 4 is DECNUM (R61). -/
theorem decodeCommand_op4 {c : Command} (hop : c.op = 4#4) : decodeCommand c = .ok .decnum := by
  simp only [decodeCommand, hop]; rfl

/-- Code 5 is WRNUM (R61). -/
theorem decodeCommand_op5 {c : Command} (hop : c.op = 5#4) :
    decodeCommand c = .ok (.wrnum (c.opa.setWidth 32) (c.opb.setWidth 32)) := by
  simp only [decodeCommand, hop]; rfl

/-- Codes 1 to 13 are unit operations, a legal count provided (R61, R143). -/
theorem decodeCommand_unit {c : Command} (h1 : 1 ≤ c.op.toNat) (h13 : c.op.toNat ≤ 13)
    (hcount : c.op = 3 → (c.opa.setWidth 3).toNat ≤ 5) : ∃ i, decodeCommand c = .ok i ∧ isUnitOp i = true := by
  cases hd : decodeCommand c with
  | error e =>
    obtain ⟨-, hop, hlt⟩ := decodeCommand_error hd
    have := BitVec.lt_def.mp hlt
    have := hcount hop
    simp only [BitVec.toNat_ofNat] at *
    omega
  | ok i => exact ⟨i, rfl, isUnitOp_of_decodeCommand hd h1 h13⟩

/-- The three commands of more than one step carry their operands as the latch does (R61). -/
theorem decodeCommand_inv {c : Command} {i : Instr} (h : decodeCommand c = .ok i) :
    (∀ n, i = .rdnum n → c.op = 3 ∧ n = c.opa.setWidth 3) ∧ (i = .decnum → c.op = 4) ∧ (∀ d a, i = .wrnum d a → c.op = 5) := by
  unfold decodeCommand at h
  split at h
  case h_4 h3 =>
    split at h
    · cases h
    · cases h
      exact ⟨fun n hn => ⟨BitVec.eq_of_toNat_eq h3, by cases hn; rfl⟩, nofun, nofun⟩
  case h_5 h4 => cases h; exact ⟨nofun, fun _ => BitVec.eq_of_toNat_eq h4, nofun⟩
  case h_6 h5 => cases h; exact ⟨nofun, nofun, fun _ _ _ => BitVec.eq_of_toNat_eq h5⟩
  all_goals cases h; exact ⟨nofun, nofun, nofun⟩

/-! ## What a step can do -/

/-- The moves of the FSM from a state whose latches fit it, over the table `tab` (R167): what each needs and the next state. -/
inductive Moves (tab : Config.Table) (s : State) : State → Prop where
  | reset (hr : s.rst = true) : Moves tab s (resetRegisters s)
  | rests (hr : s.rst = false) (hs : s.st = .idle) : Moves tab s s
  | nop (hr : s.rst = false) (hs : s.st = .idle) : Moves tab s { s with port := none }
  | acceptsUnit (c : Command) (hr : s.rst = false) (hs : s.st = .idle) (hp : s.port = some c) (h1 : 1 ≤ c.op.toNat)
      (h13 : c.op.toNat ≤ 13) (hcount : c.op = 3 → (c.opa.setWidth 3).toNat ≤ 5) : Moves tab s (acceptAs .unit c s)
  | acceptsPass (st' : FsmState) (c : Command) (hr : s.rst = false) (hs : s.st = .idle) (hst : st' = .dNext ∨ st' = .eNext) :
      Moves tab s (passStart (acceptAs st' c s))
  | waits (hr : s.rst = false) (hb : s.busy = true) (hw : s.waits = true) : Moves tab s s
  | raises (rest : List (Item Char8)) (hr : s.rst = false) (hs : Reading s) (hsi : s.si = .endTok :: rest) :
      Moves tab s (raiseBufferExhausted s)
  | pops (c : Char8) (rest : List (Item Char8)) (hr : s.rst = false) (hs : Reading s) (hsi : s.si = .data c :: rest) :
      Moves tab s (s.popSI rest)
  | probes (c : Char8) (rest : List (Item Char8)) (i : Index) (hr : s.rst = false) (hs : s.st = .dProbe)
      (hsi : s.si = .data c :: rest) : Moves tab s { latchProbe i (s.popSI rest) with st := .dExtra }
  | shifts (c : Char8) (rest : List (Item Char8)) (i : Index) (hr : s.rst = false) (hs : s.st = .dExtra)
      (hsi : s.si = .data c :: rest) :
      Moves tab s (afterShift (fun t => { t with st := .dApply }) (shiftIn i (s.popSI rest)))
  | shiftsRead (c : Char8) (rest : List (Item Char8)) (i : Index) (hr : s.rst = false) (hs : s.st = .unit) (hu : s.upos = .read)
      (hsi : s.si = .data c :: rest) : Moves tab s (afterShift finishRdnum (shiftIn i (s.popSI rest)))
  | probesUnit (c : Char8) (rest : List (Item Char8)) (i : Index) (hr : s.rst = false) (hs : s.st = .unit) (hu : s.upos = .probe)
      (hsi : s.si = .data c :: rest) : Moves tab s { latchProbe i (s.popSI rest) with upos := .extra }
  | shiftsExtra (c : Char8) (rest : List (Item Char8)) (i : Index) (hr : s.rst = false) (hs : s.st = .unit) (hu : s.upos = .extra)
      (hsi : s.si = .data c :: rest) : Moves tab s (afterShift finishDecnum (shiftIn i (s.popSI rest)))
  | finishes (ax ay : Word32) (res : Word64) (resv : Bool) (draws : Nat) (num : Word32) (cnt : BitVec 3) (hr : s.rst = false)
      (hs : s.st = .unit) (hu : s.upos = .entry) (hlatch : (num = s.num ∧ cnt = s.cnt) ∨ (num = 0 ∧ cnt = 0)) :
      Moves tab s ({ s with ax := ax, ay := ay, res := res, resv := resv, draws := draws, num := num, cnt := cnt } : State).endCommand
  | startsRdnum (hr : s.rst = false) (hs : s.st = .unit) (hu : s.upos = .entry) (hop : s.cmd.op = 3)
      (hn : s.cmd.opa.setWidth 3 ≠ 0#3) : Moves tab s { s with num := 0, cnt := s.cmd.opa.setWidth 3, upos := .read }
  | startsDecnum (hr : s.rst = false) (hs : s.st = .unit) (hu : s.upos = .entry) (hop : s.cmd.op = 4) :
      Moves tab s { s with num := 0, cnt := 1, upos := .probe }
  | startsWrnum (d a : Word32) (hr : s.rst = false) (hs : s.st = .unit) (hu : s.upos = .entry) (hop : s.cmd.op = 5) :
      Moves tab s { loadEncoder d a s with upos := .shift }
  | pushesUnit (n : BitVec 3) (hr : s.rst = false) (hs : s.st = .unit) (hu : s.upos = .shift) (hready : s.soReady = true) :
      Moves tab s (afterPush (fun t => (t.setResult (n.setWidth 64)).endCommand) (shiftOut tab s))
  | pushes (after : FsmState) (hr : s.rst = false) (hs : (s.st = .eShX ∧ after = .eNumY) ∨ (s.st = .eShY ∧ after = .eUpd))
      (hready : s.soReady = true) : Moves tab s (afterPush (fun t => { t with st := after }) (shiftOut tab s))
  | endsDecode (rest : List (Item Char8)) (hr : s.rst = false) (hs : s.st = .dNext) (hsi : s.si = .endTok :: rest) :
      Moves tab s ({ s with si := rest } : State).endCommand
  | begins (c : Char8) (rest : List (Item Char8)) (hr : s.rst = false) (hs : s.st = .dNext) (hsi : s.si = .data c :: rest) :
      Moves tab s { s with num := 0, cnt := 1, st := .dProbe }
  | applies (hr : s.rst = false) (hs : s.st = .dApply) : Moves tab s (applyLatches s)
  | emits (hr : s.rst = false) (hs : s.st = .dEmit) (hready : s.poReady = true) :
      Moves tab s { s.pushPO ⟨toDegreesX s.ax, toDegreesY s.ay⟩ with axis := .x, st := .dNext }
  | endsEncode (rest : List (Item Point)) (hr : s.rst = false) (hs : s.st = .eNext) (hpi : s.pi = .endTok :: rest) :
      Moves tab s ({ s with pi := rest } : State).endCommand
  | takes (pt : Point) (rest : List (Item Point)) (fx fy : Word32) (draws : Nat) (hr : s.rst = false) (hs : s.st = .eNext)
      (hpi : s.pi = .data pt :: rest) : Moves tab s { s.popPI rest with fx := fx, fy := fy, draws := draws, st := .eNumX }
  | loads (f a : Word32) (st' : FsmState) (hr : s.rst = false)
      (hs : (s.st = .eNumX ∧ st' = .eShX) ∨ (s.st = .eNumY ∧ st' = .eShY)) :
      Moves tab s { loadEncoder (f - a) f s with st := st' }
  | updates (hr : s.rst = false) (hs : s.st = .eUpd) : Moves tab s { s with ax := s.fx, ay := s.fy, st := .eNext }

/-- The UNIT part of `Reading`, as the outputs name it (R80, R83). -/
theorem unitReads_iff (s : State) :
    s.unitReads = true ↔ s.st = .unit ∧ (s.upos = .read ∨ s.upos = .probe ∨ s.upos = .extra) := by
  simp [State.unitReads, or_assoc]

/-- In `UNIT` the latched command is one the decoder accepts, a unit operation (R143). -/
theorem unit_decodes {s : State} (hphase : phaseOk s = true) (hs : s.st = .unit) :
    ∃ i, decodeCommand s.cmd = .ok i ∧ isUnitOp i = true := by
  simp only [phaseOk, hs, unitOk] at hphase
  cases hu : s.upos <;> simp only [hu, Bool.and_eq_true, Bool.or_eq_true, decide_eq_true_eq, bne_iff_ne, beq_iff_eq] at hphase
  case entry => exact decodeCommand_unit hphase.1.1 hphase.1.2 fun hop => (hphase.2.resolve_left (· hop))
  case read => exact ⟨_, decodeCommand_op3 hphase.1.1 hphase.1.2, decide_eq_true (BitVec.le_def.mpr hphase.1.2)⟩
  case probe => exact ⟨_, decodeCommand_op4 hphase.1.1, rfl⟩
  case extra => exact ⟨_, decodeCommand_op4 hphase.1, rfl⟩
  case shift => exact ⟨_, decodeCommand_op5 hphase.1, rfl⟩

/-- In `UNIT` a step is the latched operation's run (R145). -/
theorem stepOf_unitRun {tab : Config.Table} {s : State} {i : Instr} (hr : s.rst = false) (hs : s.st = .unit)
    (hd : decodeCommand s.cmd = .ok i) (hi : isUnitOp i = true) : stepOf tab s = unitRun tab i s := by
  rw [stepOf_unit hr hs hd, execOf_unit tab hi hs]

/-- Wherever a reader looks at SI a step is one turn of it (R80, R83, R152, R153). -/
theorem stepOf_reads {tab : Config.Table} {s : State} (hr : s.rst = false) (hphase : phaseOk s = true) (hs : Reading s) :
    stepOf tab s = readStep tab s := by
  obtain hs | hs | ⟨hs, hu⟩ := hs
  · exact stepOf_reading hr (.inl hs)
  · exact stepOf_reading hr (.inr hs)
  · have hne : s.upos ≠ .entry := by rcases hu with hu | hu | hu <;> simp [hu]
    obtain ⟨i, hd, hi⟩ := unit_decodes hphase hs
    rw [stepOf_unitRun hr hs hd hi]
    simp only [phaseOk, hs, unitOk] at hphase
    rcases hu with hu | hu | hu <;>
      simp only [hu, Bool.and_eq_true, decide_eq_true_eq, beq_iff_eq] at hphase
    · cases hd.symm.trans (decodeCommand_op3 hphase.1.1 hphase.1.2); exact runRdnum_reads tab _ hne
    · cases hd.symm.trans (decodeCommand_op4 hphase.1.1); exact runDecnum_reads tab hne
    · cases hd.symm.trans (decodeCommand_op4 hphase.1); exact runDecnum_reads tab hne

/-- WRNUM's push loop is a step of it (R100). -/
theorem stepOf_shift {tab : Config.Table} {s : State} (hr : s.rst = false) (hphase : phaseOk s = true) (hs : s.st = .unit)
    (hu : s.upos = .shift) : stepOf tab s = pushLoop tab (encoderCount (s.cmd.opa.setWidth 32)) s := by
  simp only [phaseOk, hs, unitOk, hu, Bool.and_eq_true, beq_iff_eq] at hphase
  rw [stepOf_unitRun hr hs (decodeCommand_op5 hphase.1) rfl]
  exact runWrnum_pushes tab _ _ (by simp [hu])

/-- A reader's turn is one of the moves. -/
theorem readStep_moves {tab : Config.Table} {s t : State} (hr : s.rst = false) (hs : Reading s) (h : readStep tab s = .next t) :
    Moves tab s t := by
  obtain ⟨hsi, rfl⟩ | ⟨rest, hsi, rfl⟩ | ⟨c, rest, i, hsi, hc, hsym⟩ | ⟨c, rest, hsi, hc, hfil⟩ := readStep_cases h
  · refine .waits hr ?_ ?_ <;> obtain hs | hs | ⟨hs, hu | hu | hu⟩ := hs <;> simp [State.busy, State.waits, State.unitReads, *]
  · exact .raises rest hr hs hsi
  · obtain hs | hs | ⟨hs, hu | hu | hu⟩ := hs
    · cases (consumeSymbol_dProbe hsi hs).symm.trans hsym; exact .probes c rest i hr hs hsi
    · cases (consumeSymbol_dExtra hsi hs).symm.trans hsym; exact .shifts c rest i hr hs hsi
    · cases (consumeSymbol_read hsi hs hu).symm.trans hsym; exact .shiftsRead c rest i hr hs hu hsi
    · cases (consumeSymbol_probe hsi hs hu).symm.trans hsym; exact .probesUnit c rest i hr hs hu hsi
    · cases (consumeSymbol_extra hsi hs hu).symm.trans hsym; exact .shiftsExtra c rest i hr hs hu hsi
  · cases (consumeFiller_reading hsi hs).symm.trans hfil
    exact .pops c rest hr hs hsi

/-- The first step of a unit operation is one of the moves (R145). -/
theorem unitRun_moves {tab : Config.Table} {s t : State} {i : Instr} (hr : s.rst = false) (hs : s.st = .unit) (hu : s.upos = .entry)
    (hd : decodeCommand s.cmd = .ok i) (hi : isUnitOp i = true) (h : unitRun tab i s = .next t) : Moves tab s t := by
  have kept : (s.num = s.num ∧ s.cnt = s.cnt) ∨ (s.num = 0 ∧ s.cnt = 0) := .inl ⟨rfl, rfl⟩
  obtain ⟨hrdnum, hdecnum, hwrnum⟩ := decodeCommand_inv hd
  cases i with
  | rdnum n =>
    obtain ⟨hop, rfl⟩ := hrdnum n rfl
    by_cases hn : s.cmd.opa.setWidth 3 = 0#3
    · rw [hn] at h
      cases (runRdnum_zero tab hu).symm.trans h
      exact .finishes s.ax s.ay _ true s.draws 0 0 hr hs hu (.inr ⟨rfl, rfl⟩)
    · cases (runRdnum_entry tab hu hn).symm.trans h
      exact .startsRdnum hr hs hu hop hn
  | decnum => cases (runDecnum_entry tab hu).symm.trans h; exact .startsDecnum hr hs hu (hdecnum rfl)
  | wrnum d a => cases (runWrnum_entry tab d a hu).symm.trans h; exact .startsWrnum d a hr hs hu (hwrnum d a rfl)
  | symof k => cases h; exact .finishes s.ax s.ay _ true s.draws s.num s.cnt hr hs hu kept
  | idxof c =>
    cases h
    cases hc : revOf tab c with
    | none => rw [lookupResult_of_none hc]; exact .finishes s.ax s.ay 0 false s.draws s.num s.cnt hr hs hu kept
    | some k => rw [lookupResult_of_some hc]; exact .finishes s.ax s.ay _ true s.draws s.num s.cnt hr hs hu kept
  | tofixx w =>
    cases h
    cases hv : toFixedX w with
    | none => rw [returnFixed_none rfl]; exact .finishes s.ax s.ay _ true (s.draws + 1) s.num s.cnt hr hs hu kept
    | some v => rw [returnFixed_some rfl]; exact .finishes s.ax s.ay _ true s.draws s.num s.cnt hr hs hu kept
  | tofixy w =>
    cases h
    cases hv : toFixedY w with
    | none => rw [returnFixed_none rfl]; exact .finishes s.ax s.ay _ true (s.draws + 1) s.num s.cnt hr hs hu kept
    | some v => rw [returnFixed_some rfl]; exact .finishes s.ax s.ay _ true s.draws s.num s.cnt hr hs hu kept
  | todegx n => cases h; exact .finishes s.ax s.ay _ true s.draws s.num s.cnt hr hs hu kept
  | todegy n => cases h; exact .finishes s.ax s.ay _ true s.draws s.num s.cnt hr hs hu kept
  | aclr => cases h; exact .finishes 0 0 s.res s.resv s.draws s.num s.cnt hr hs hu kept
  | aadd a d =>
    cases h
    cases a
    · exact .finishes (s.ax + d) s.ay _ true s.draws s.num s.cnt hr hs hu kept
    · exact .finishes s.ax (s.ay + d) _ true s.draws s.num s.cnt hr hs hu kept
  | aload a v =>
    cases h
    cases a
    · exact .finishes v s.ay _ true s.draws s.num s.cnt hr hs hu kept
    · exact .finishes s.ax v _ true s.draws s.num s.cnt hr hs hu kept
  | adiff a x => cases h; exact .finishes s.ax s.ay _ true s.draws s.num s.cnt hr hs hu kept
  | _ => cases hi

/-- In `IDLE` a step is one of the moves (R142, R143). -/
theorem idle_moves {tab : Config.Table} {s t : State} (hr : s.rst = false) (hs : s.st = .idle) (h : stepOf tab s = .next t) :
    Moves tab s t := by
  cases hp : s.port with
  | none => cases (stepOf_idle_none hr hs hp).symm.trans h; exact .rests hr hs
  | some c =>
    cases hd : decodeCommand c with
    | error e => cases (stepOf_rejected tab hr (.inl ⟨hs, hp⟩) hd).symm.trans h
    | ok i =>
      rw [stepOf_idle hr hs hp hd] at h
      by_cases h0 : c.op = 0
      · obtain rfl : i = .nop := by simp only [decodeCommand, h0] at hd; cases hd; rfl
        cases (exec_nop_idle hs).symm.trans ((execOf_alphabet _ _).symm.trans h)
        exact .nop hr hs
      · by_cases h14 : c.op = 14
        · obtain rfl : i = .decode := by cases hd.symm.trans (decodeCommand_op14 h14); rfl
          have haccept : execOf tab .decode s = acceptPass .dNext s := by rw [execOf, execDecodeOf, hs]
          cases (haccept.trans (acceptPass_some .dNext hp)).symm.trans h
          exact .acceptsPass .dNext c hr hs (.inl rfl)
        · by_cases h15 : c.op = 15
          · obtain rfl : i = .encode := by cases hd.symm.trans (decodeCommand_op15 h15); rfl
            have haccept : execOf tab .encode s = acceptPass .eNext s := by rw [execOf, execEncodeOf, hs]
            cases (haccept.trans (acceptPass_some .eNext hp)).symm.trans h
            exact .acceptsPass .eNext c hr hs (.inr rfl)
          · have h1 : 1 ≤ c.op.toNat := by bv_omega
            have h13 : c.op.toNat ≤ 13 := by bv_omega
            have hi := isUnitOp_of_decodeCommand hd h1 h13
            rw [execOf_eq_unitCommand tab hi, unitCommand_idle hs hp] at h
            cases h
            refine .acceptsUnit c hr hs hp h1 h13 fun hop => ?_
            by_contra hcount
            cases hd.symm.trans (decodeCommand_reserved hop (BitVec.lt_def.mpr (by simpa using hcount)))

/-- Everything a step can do from a state whose latches fit it. -/
theorem stepOf_moves {tab : Config.Table} {s t : State} (hphase : phaseOk s = true) (h : stepOf tab s = .next t) :
    Moves tab s t := by
  cases hr : s.rst with
  | true => cases (stepOf_reset hr).symm.trans h; exact .reset hr
  | false =>
    cases hs : s.st with
    | idle => exact idle_moves hr hs h
    | unit =>
      by_cases hreads : Reading s
      · exact readStep_moves hr hreads ((stepOf_reads hr hphase hreads).symm.trans h)
      · cases hu : s.upos with
        | entry =>
          obtain ⟨i, hd, hi⟩ := unit_decodes hphase hs
          exact unitRun_moves hr hs hu hd hi ((stepOf_unitRun hr hs hd hi).symm.trans h)
        | shift =>
          obtain ⟨hready, rfl⟩ | ⟨hready, rfl⟩ := pushLoop_cases ((stepOf_shift hr hphase hs hu).symm.trans h)
          · exact .waits hr (by simp [State.busy, hs]) (by simp [State.waits, State.soValid, hs, hu, hready])
          · exact .pushesUnit _ hr hs hu hready
        | read => exact absurd (.inr (.inr ⟨hs, .inl hu⟩)) hreads
        | probe => exact absurd (.inr (.inr ⟨hs, .inr (.inl hu)⟩)) hreads
        | extra => exact absurd (.inr (.inr ⟨hs, .inr (.inr hu)⟩)) hreads
    | dNext =>
      obtain ⟨hsi, rfl⟩ | ⟨rest, hsi, rfl⟩ | ⟨c, rest, hsi, rfl⟩ := decodeNext_cases ((stepOf_dNext hr hs).symm.trans h)
      · exact .waits hr (by simp [State.busy, hs]) (by simp [State.waits, hs, hsi])
      · exact .endsDecode rest hr hs hsi
      · exact .begins c rest hr hs hsi
    | dProbe => exact readStep_moves hr (.inl hs) ((stepOf_reading hr (.inl hs)).symm.trans h)
    | dExtra => exact readStep_moves hr (.inr (.inl hs)) ((stepOf_reading hr (.inr hs)).symm.trans h)
    | dApply =>
      cases ((stepOf_dApply hr hs).trans (execOf_formOf tab hs)).symm.trans h
      exact .applies hr hs
    | dEmit =>
      obtain ⟨hready, rfl⟩ | ⟨hready, rfl⟩ := decodeEmit_cases ((stepOf_dEmit hr hs).symm.trans h)
      · exact .waits hr (by simp [State.busy, hs]) (by simp [State.waits, State.poValid, hs, hready])
      · exact .emits hr hs hready
    | eNext =>
      obtain ⟨hpi, rfl⟩ | ⟨rest, hpi, rfl⟩ | ⟨pt, rest, hpi, vx, vy, rfl, rfl, rfl⟩ :=
        encodeNext_cases ((stepOf_eNext hr hs).symm.trans h)
      · exact .waits hr (by simp [State.busy, hs]) (by simp [State.waits, hs, hpi])
      · exact .endsEncode rest hr hs hpi
      · cases hx : toFixedX pt.x <;> cases hy : toFixedY pt.y <;> exact .takes pt rest _ _ _ hr hs hpi
    | eNumX => cases (stepOf_eNumX hr hs).symm.trans h; exact .loads s.fx s.ax _ hr (.inl ⟨hs, rfl⟩)
    | eNumY => cases (stepOf_eNumY hr hs).symm.trans h; exact .loads s.fy s.ay _ hr (.inr ⟨hs, rfl⟩)
    | eShX =>
      obtain ⟨hready, rfl⟩ | ⟨hready, rfl⟩ := encodeShift_cases ((stepOf_eShX hr hs).symm.trans h)
      · exact .waits hr (by simp [State.busy, hs]) (by simp [State.waits, State.soValid, hs, hready])
      · exact .pushes _ hr (.inl ⟨hs, rfl⟩) hready
    | eShY =>
      obtain ⟨hready, rfl⟩ | ⟨hready, rfl⟩ := encodeShift_cases ((stepOf_eShY hr hs).symm.trans h)
      · exact .waits hr (by simp [State.busy, hs]) (by simp [State.waits, State.soValid, hs, hready])
      · exact .pushes _ hr (.inr ⟨hs, rfl⟩) hready
    | eUpd => cases (stepOf_eUpd hr hs).symm.trans h; exact .updates hr hs

end Machine
end Sys2Proof
end

section
/-! PROOF. The invariant (spec/10_state.md R16 to R18, spec/70_reset_and_hazards.md R211, R214). Each part of it is kept by every move of
the FSM and by every move of the host. -/

namespace Sys2Proof

namespace Machine

open Sys2Proof.Safety

/-! ## The bounds of a read -/

theorem rangesOk_iff (s : State) :
    rangesOk s = true ↔ s.cnt.toNat ≤ 5 ∧ s.ocnt.toNat ≤ 5 ∧ s.num.toNat < 2 ^ 30 := by
  simp [rangesOk, and_assoc]

theorem readingOk_iff (n : Nat) (s : State) :
    readingOk n s = true ↔ 1 ≤ s.cnt.toNat ∧ s.cnt.toNat ≤ n ∧ s.num.toNat < 64 ^ (n - s.cnt.toNat) := by
  simp [readingOk, and_assoc]

theorem extraOk_iff (s : State) : extraOk s = true ↔ s.tier = tierOf s.p ∧ readingOk s.tier.extra s = true := by
  simp [extraOk]

/-- A symbol shifted in: one less to read, and `NUM` holds one symbol more (R80, R82). -/
theorem shiftIn_reading {n : Nat} {s : State} (i : Index) (hn : n ≤ 5) (h : readingOk n s = true) :
    (shiftIn i s).cnt.toNat = s.cnt.toNat - 1 ∧ (shiftIn i s).num.toNat < 64 ^ (n - (s.cnt.toNat - 1)) := by
  obtain ⟨h1, hle, hnum⟩ := (readingOk_iff n s).mp h
  have hcnt : (s.cnt - 1#3).toNat = s.cnt.toNat - 1 := by bv_omega
  have hpow : 64 ^ (n - s.cnt.toNat) ≤ 64 ^ 4 := Nat.pow_le_pow_right (by decide) (by omega)
  have hsucc : 64 ^ (n - (s.cnt.toNat - 1)) = 64 ^ (n - s.cnt.toNat) * 64 := by
    rw [← Nat.pow_succ]; congr 1; omega
  have hi := i.isLt
  refine ⟨hcnt, ?_⟩
  change ((s.num <<< 6) ||| i.setWidth 32).toNat < _
  rw [shiftSymbol_toNat _ _ (by omega), hsucc]
  omega

/-- While there are symbols to read, a symbol shifted in leaves the read in order (R80). -/
theorem shiftIn_readingOk {n : Nat} {s : State} (i : Index) (hn : n ≤ 5) (h : readingOk n s = true)
    (hmore : (shiftIn i s).cnt ≠ 0#3) : readingOk n (shiftIn i s) = true := by
  obtain ⟨hcnt, hnum⟩ := shiftIn_reading i hn h
  obtain ⟨h1, hle, -⟩ := (readingOk_iff n s).mp h
  have : (shiftIn i s).cnt.toNat ≠ 0 := fun h0 => hmore (BitVec.eq_of_toNat_eq h0)
  rw [readingOk_iff, hcnt]
  exact ⟨by omega, by omega, hnum⟩

/-- The last symbol shifted in: `NUM` holds the symbols asked for (R80, R82). -/
theorem shiftIn_last_num {n : Nat} {s : State} (i : Index) (hn : n ≤ 5) (h : readingOk n s = true)
    (hlast : (shiftIn i s).cnt = 0#3) : (shiftIn i s).num.toNat < 64 ^ n := by
  obtain ⟨hcnt, hnum⟩ := shiftIn_reading i hn h
  rw [hlast] at hcnt
  rwa [← hcnt] at hnum

/-- A read's `CNT` and `NUM` stay in their ranges (R17, R18). -/
theorem shiftIn_ranges {n : Nat} {s : State} (i : Index) (hn : n ≤ 5) (h : readingOk n s = true) :
    (shiftIn i s).cnt.toNat ≤ 5 ∧ (shiftIn i s).num.toNat < 2 ^ 30 := by
  obtain ⟨hcnt, hnum⟩ := shiftIn_reading i hn h
  obtain ⟨h1, hle, -⟩ := (readingOk_iff n s).mp h
  have hpow : 64 ^ (n - (s.cnt.toNat - 1)) ≤ 64 ^ 5 := Nat.pow_le_pow_right (by decide) (by omega)
  exact ⟨by omega, by omega⟩

/-- After the probe, the tier's symbols are to be read into an empty `NUM` (R83, R152). -/
theorem latchProbe_extraOk (i : Index) (s : State) : extraOk (latchProbe i s) = true := by
  have := Tier.extra_le (tierOf i)
  rw [extraOk_iff, readingOk_iff]
  simp only [latchProbe, BitVec.toNat_ofNat]
  refine ⟨trivial, by omega, by omega, Nat.pow_pos (by decide)⟩

/-- The encoder's count is 2, 3 or 5 (R105). -/
theorem encoderCount_bounds (d : Word32) : 1 ≤ (encoderCount d).toNat ∧ (encoderCount d).toNat ≤ 5 := by
  have := Tier.extra_le (tierOfDelta d)
  rw [encoderCount_toNat]
  omega

/-! ## What each FSM state says of the latches -/

theorem phaseOk_dExtra {s : State} (h : s.st = .dExtra) : phaseOk s = true ↔ s.upos = .entry ∧ extraOk s = true := by
  simp [phaseOk, h]

theorem phaseOk_dApply {s : State} (h : s.st = .dApply) :
    phaseOk s = true ↔ s.upos = .entry ∧ s.cnt = 0 ∧ s.tier = tierOf s.p ∧ s.num.toNat < 64 ^ s.tier.extra := by
  simp [phaseOk, h, and_assoc]

theorem phaseOk_read {s : State} (h : s.st = .unit) (hu : s.upos = .read) :
    phaseOk s = true ↔ s.cmd.op = 3 ∧ (s.cmd.opa.setWidth 3).toNat ≤ 5 ∧ readingOk (s.cmd.opa.setWidth 3).toNat s = true := by
  simp [phaseOk, unitOk, h, hu, and_assoc]

theorem phaseOk_extra {s : State} (h : s.st = .unit) (hu : s.upos = .extra) :
    phaseOk s = true ↔ s.cmd.op = 4 ∧ extraOk s = true := by
  simp [phaseOk, unitOk, h, hu]

theorem phaseOk_entry {s : State} (h : s.st = .unit) (hu : s.upos = .entry) :
    phaseOk s = true ↔ 1 ≤ s.cmd.op.toNat ∧ s.cmd.op.toNat ≤ 13 ∧ (s.cmd.op = 3 → (s.cmd.opa.setWidth 3).toNat ≤ 5) := by
  simp [phaseOk, unitOk, h, hu, and_assoc, imp_iff_not_or]

theorem phaseOk_push {s : State} (h : s.st = .eShX ∨ s.st = .eShY) :
    phaseOk s = true ↔ s.upos = .entry ∧ 1 ≤ s.ocnt.toNat := by
  rcases h with h | h <;> simp [phaseOk, h]

theorem phaseOk_shift {s : State} (h : s.st = .unit) (hu : s.upos = .shift) :
    phaseOk s = true ↔ s.cmd.op = 5 ∧ 1 ≤ s.ocnt.toNat := by
  simp [phaseOk, unitOk, h, hu]

/-- Outside `UNIT` the position is the entry (log 6). -/
theorem upos_of_phaseOk {s : State} (h : phaseOk s = true) (hs : s.st ≠ .unit) : s.upos = .entry := by
  cases hst : s.st <;> simp_all [phaseOk]

/-- The number in the latches goes into the axis's accumulator; after X the axis turns, after Y the point is due (R154). -/
theorem applyLatches_cases (s : State) :
    ∃ v, (s.axis = .x ∧ applyLatches s = { s with ax := v, axis := .y, st := .dNext }) ∨
      (s.axis = .y ∧ applyLatches s = { s with ay := v, st := .dEmit }) := by
  have value : ∃ v, applyLatches s = afterApply (s.setAcc s.axis v) := by
    rw [applyLatches]
    cases s.tier <;> exact ⟨_, rfl⟩
  obtain ⟨v, hv⟩ := value
  refine ⟨v, ?_⟩
  rw [hv, afterApply, State.setAcc_axis]
  cases hax : s.axis
  · exact .inl ⟨rfl, rfl⟩
  · refine .inr ⟨rfl, ?_⟩
    rw [← hax]
    simp only [State.setAcc, hax]

/-! ## The moves of the FSM keep the invariant -/

/-- The register ranges are kept (R17, R18). -/
theorem Moves.keeps_ranges {tab : Config.Table} {s t : State} (h : Moves tab s t) (hphase : phaseOk s = true)
    (hranges : rangesOk s = true) : rangesOk t = true := by
  obtain ⟨hcnt, hocnt, hnum⟩ := (rangesOk_iff s).mp hranges
  have empty : (0#32).toNat < 2 ^ 30 := by decide
  have shifted {n : Nat} (fin : State → State) (i : Index) (rest : List (Item Char8)) (hn : n ≤ 5) (hread : readingOk n s = true)
      (hfin : ∀ u, (fin u).cnt = u.cnt ∧ (fin u).ocnt = u.ocnt ∧ (fin u).num = u.num) :
      rangesOk (afterShift fin (shiftIn i (s.popSI rest))) = true := by
    have hbounds := shiftIn_ranges (s := s.popSI rest) i hn hread
    rw [rangesOk_iff]
    obtain ⟨-, heq⟩ | ⟨-, heq⟩ := afterShift_cases fin (shiftIn i (s.popSI rest))
    · rw [heq, (hfin _).1, (hfin _).2.1, (hfin _).2.2]; exact ⟨hbounds.1, hocnt, hbounds.2⟩
    · rw [heq]; exact ⟨hbounds.1, hocnt, hbounds.2⟩
  have pushed (fin : State → State) (h1 : 1 ≤ s.ocnt.toNat)
      (hfin : ∀ u, (fin u).cnt = u.cnt ∧ (fin u).ocnt = u.ocnt ∧ (fin u).num = u.num) :
      rangesOk (afterPush fin (shiftOut tab s)) = true := by
    have hpred : (s.ocnt - 1#3).toNat ≤ 5 := by bv_omega
    rw [rangesOk_iff]
    obtain ⟨-, heq⟩ | ⟨-, heq⟩ := afterPush_cases fin (shiftOut tab s)
    · rw [heq, (hfin _).1, (hfin _).2.1, (hfin _).2.2]; exact ⟨hcnt, hpred, hnum⟩
    · rw [heq]; exact ⟨hcnt, hpred, hnum⟩
  cases h with
  | shifts c rest i hr hs hsi =>
    have hread := ((extraOk_iff s).mp ((phaseOk_dExtra hs).mp hphase).2).2
    exact shifted _ i rest (by have := Tier.extra_le s.tier; omega) hread fun _ => ⟨rfl, rfl, rfl⟩
  | shiftsRead c rest i hr hs hu hsi =>
    obtain ⟨-, hle, hread⟩ := (phaseOk_read hs hu).mp hphase
    exact shifted _ i rest hle hread fun _ => ⟨rfl, rfl, rfl⟩
  | shiftsExtra c rest i hr hs hu hsi =>
    have hread := ((extraOk_iff s).mp ((phaseOk_extra hs hu).mp hphase).2).2
    exact shifted _ i rest (by have := Tier.extra_le s.tier; omega) hread fun _ => ⟨rfl, rfl, rfl⟩
  | pushesUnit n hr hs hu => exact pushed _ ((phaseOk_shift hs hu).mp hphase).2 fun _ => ⟨rfl, rfl, rfl⟩
  | pushes after hr hs =>
    exact pushed _ ((phaseOk_push (hs.imp And.left And.left)).mp hphase).2 fun _ => ⟨rfl, rfl, rfl⟩
  | startsRdnum hr hs hu hop =>
    exact (rangesOk_iff _).mpr ⟨((phaseOk_entry hs hu).mp hphase).2.2 hop, hocnt, empty⟩
  | finishes ax ay res resv draws num cnt hr hs hu hlatch =>
    rw [rangesOk_iff]
    obtain ⟨rfl, rfl⟩ | ⟨rfl, rfl⟩ := hlatch
    · exact ⟨hcnt, hocnt, hnum⟩
    · exact ⟨Nat.zero_le 5, hocnt, empty⟩
  | probes c rest i | probesUnit c rest i =>
    have := Tier.extra_le (tierOf i)
    refine (rangesOk_iff _).mpr ⟨?_, hocnt, by simp⟩
    simp only [latchProbe_cnt, BitVec.toNat_ofNat]
    omega
  | startsWrnum d a => exact (rangesOk_iff _).mpr ⟨hcnt, (encoderCount_bounds d).2, hnum⟩
  | loads f a => exact (rangesOk_iff _).mpr ⟨hcnt, (encoderCount_bounds (f - a)).2, hnum⟩
  | acceptsPass | reset => rfl
  | begins | startsDecnum => exact (rangesOk_iff _).mpr ⟨Nat.le_add_left 1 4, hocnt, empty⟩
  | applies =>
    obtain ⟨v, ⟨-, heq⟩ | ⟨-, heq⟩⟩ := applyLatches_cases s <;> rw [heq] <;> exact hranges
  | rests | nop | acceptsUnit | waits | raises | pops | endsDecode | emits | endsEncode | takes | updates => exact hranges

/-- Each FSM state's latches are kept in order (R151 to R155, R162 to R164). -/
theorem Moves.keeps_phase {tab : Config.Table} {s t : State} (h : Moves tab s t) (hphase : phaseOk s = true) :
    phaseOk t = true := by
  have entry (hs : s.st ≠ .unit) : s.upos = .entry := upos_of_phaseOk hphase hs
  have pred_pos (hmore : s.ocnt - 1#3 ≠ 0#3) : 1 ≤ (s.ocnt - 1#3).toNat := by
    have : (s.ocnt - 1#3).toNat ≠ 0 := fun h0 => hmore (BitVec.eq_of_toNat_eq h0)
    omega
  have extra_le : s.tier.extra ≤ 5 := (Tier.extra_le s.tier).2.trans (by decide)
  cases h with
  | shifts c rest i hr hs hsi =>
    obtain ⟨hu, hextra⟩ := (phaseOk_dExtra hs).mp hphase
    obtain ⟨htier, hread⟩ := (extraOk_iff s).mp hextra
    obtain ⟨h0, heq⟩ | ⟨hmore, heq⟩ := afterShift_cases (fun t => { t with st := .dApply }) (shiftIn i (s.popSI rest)) <;> rw [heq]
    · have hnum := shiftIn_last_num (s := s.popSI rest) i extra_le hread h0
      exact (phaseOk_dApply rfl).mpr ⟨hu, h0, htier, hnum⟩
    · exact (phaseOk_dExtra (by exact hs)).mpr
          ⟨hu, (extraOk_iff _).mpr ⟨htier, shiftIn_readingOk (s := s.popSI rest) i extra_le hread hmore⟩⟩
  | shiftsRead c rest i hr hs hu hsi =>
    obtain ⟨hop, hle, hread⟩ := (phaseOk_read hs hu).mp hphase
    obtain ⟨-, heq⟩ | ⟨hmore, heq⟩ := afterShift_cases finishRdnum (shiftIn i (s.popSI rest)) <;> rw [heq]
    · rfl
    · exact (phaseOk_read (by exact hs) (by exact hu)).mpr ⟨hop, hle, shiftIn_readingOk (s := s.popSI rest) i hle hread hmore⟩
  | shiftsExtra c rest i hr hs hu hsi =>
    obtain ⟨hop, hextra⟩ := (phaseOk_extra hs hu).mp hphase
    obtain ⟨htier, hread⟩ := (extraOk_iff s).mp hextra
    obtain ⟨-, heq⟩ | ⟨hmore, heq⟩ := afterShift_cases finishDecnum (shiftIn i (s.popSI rest)) <;> rw [heq]
    · rfl
    · exact (phaseOk_extra (by exact hs) (by exact hu)).mpr
        ⟨hop, (extraOk_iff _).mpr ⟨htier, shiftIn_readingOk (s := s.popSI rest) i extra_le hread hmore⟩⟩
  | pushesUnit n hr hs hu =>
    obtain ⟨-, heq⟩ | ⟨hmore, heq⟩ := afterPush_cases (fun t => (t.setResult (n.setWidth 64)).endCommand) (shiftOut tab s) <;> rw [heq]
    · rfl
    · exact (phaseOk_shift (by exact hs) (by exact hu)).mpr ⟨((phaseOk_shift hs hu).mp hphase).1, pred_pos hmore⟩
  | pushes after hr hs =>
    have hst : s.st = .eShX ∨ s.st = .eShY := hs.imp And.left And.left
    have hu := ((phaseOk_push hst).mp hphase).1
    obtain ⟨-, heq⟩ | ⟨hmore, heq⟩ := afterPush_cases (fun t => { t with st := after }) (shiftOut tab s) <;> rw [heq]
    · obtain ⟨-, rfl⟩ | ⟨-, rfl⟩ := hs <;> simp [phaseOk, hu]
    · exact (phaseOk_push (by exact hst)).mpr ⟨hu, pred_pos hmore⟩
  | probes c rest i hr hs =>
    exact (phaseOk_dExtra rfl).mpr ⟨entry (by simp [hs]), latchProbe_extraOk i s⟩
  | probesUnit c rest i hr hs hu =>
    simp only [phaseOk, unitOk, hs, hu, Bool.and_eq_true, beq_iff_eq] at hphase
    exact (phaseOk_extra (by exact hs) rfl).mpr ⟨hphase.1.1, latchProbe_extraOk i s⟩
  | startsRdnum hr hs hu hop hn =>
    have hle := ((phaseOk_entry hs hu).mp hphase).2.2 hop
    have hpos : (s.cmd.opa.setWidth 3).toNat ≠ 0 := fun h0 => hn (BitVec.eq_of_toNat_eq h0)
    exact (phaseOk_read (by exact hs) rfl).mpr
      ⟨hop, hle, (readingOk_iff _ _).mpr ⟨Nat.pos_of_ne_zero hpos, le_rfl, Nat.pow_pos (by decide)⟩⟩
  | startsDecnum hr hs hu hop => simp [phaseOk, unitOk, hs, hop]
  | startsWrnum d a hr hs hu hop => exact (phaseOk_shift (by exact hs) rfl).mpr ⟨hop, (encoderCount_bounds d).1⟩
  | acceptsUnit c hr hs hp h1 h13 hcount => exact (phaseOk_entry rfl rfl).mpr ⟨h1, h13, hcount⟩
  | acceptsPass st' c hr hs hst => obtain rfl | rfl := hst <;> rfl
  | applies hr hs =>
    have hu := entry (by simp [hs])
    obtain ⟨v, ⟨-, heq⟩ | ⟨hax, heq⟩⟩ := applyLatches_cases s <;> rw [heq] <;> simp [phaseOk, *]
  | loads f a st' hr hs =>
    have hu : s.upos = .entry := entry (by obtain ⟨hs, -⟩ | ⟨hs, -⟩ := hs <;> simp [hs])
    exact (phaseOk_push (hs.imp And.right And.right)).mpr ⟨hu, (encoderCount_bounds (f - a)).1⟩
  | pops c rest hr hs => exact hphase
  | rests | nop | waits => exact hphase
  | reset | raises | finishes | endsDecode | endsEncode => rfl
  | begins c rest hr hs | emits hr hs | takes pt rest fx fy draws hr hs | updates hr hs =>
    simp [phaseOk, entry, hs]

/-! ## The flags -/

/-- A busy block is not done, not in error and has no result (R211). -/
theorem flagsOk_busy {s : State} (hb : s.busy = true) :
    flagsOk s = true ↔ s.doneFlag = false ∧ s.err = .none ∧ s.resv = false := by
  simp only [flagsOk, hb, Bool.not_true, Bool.false_or, Bool.and_eq_true, Bool.or_eq_true, Bool.not_eq_true', beq_iff_eq]
  constructor
  · rintro ⟨⟨⟨⟨hd, he⟩, hv⟩, -⟩, -⟩; exact ⟨hd, he, hv⟩
  · rintro ⟨hd, he, hv⟩; exact ⟨⟨⟨⟨hd, he⟩, hv⟩, .inl he⟩, .inl hv⟩

/-- Cleared flags are in order whatever the block does (R143). -/
theorem flagsOk_of_clear {s : State} (hd : s.doneFlag = false) (he : s.err = .none) (hv : s.resv = false) : flagsOk s = true := by
  simp [flagsOk, hd, he, hv]

/-- The flags of a normal end are in order (R147). -/
theorem flagsOk_of_ended {s : State} (hs : s.st = .idle) (hd : s.doneFlag = true) (he : s.err = .none) : flagsOk s = true := by
  simp [flagsOk, State.busy, hs, hd, he]

/-- The readers' states are busy. -/
theorem Reading.ne_idle {s : State} (h : Reading s) : s.st ≠ .idle := by
  obtain hs | hs | ⟨hs, -⟩ := h <;> simp [hs]

/-- A move of a busy block goes on with the flags as they are, ends normally with `DONE`, or raises (R147, R181, R211). -/
theorem Moves.busy_cases {tab : Config.Table} {s t : State} (h : Moves tab s t) (hr : s.rst = false) (hb : s.st ≠ .idle) :
    (t.st ≠ .idle ∧ t.doneFlag = s.doneFlag ∧ t.err = s.err ∧ t.resv = s.resv) ∨
      (t.st = .idle ∧ t.doneFlag = true ∧ t.err = s.err) ∨
      (t = raiseBufferExhausted s ∧ Reading s ∧ ∃ rest, s.si = .endTok :: rest) := by
  cases h with
  | reset hr' => rw [hr] at hr'; cases hr'
  | rests _ hs | nop _ hs | acceptsUnit _ _ hs | acceptsPass _ _ _ hs => exact absurd hs hb
  | raises rest _ hs hsi => exact .inr (.inr ⟨rfl, hs, rest, hsi⟩)
  | finishes | endsDecode | endsEncode => exact .inr (.inl ⟨rfl, rfl, rfl⟩)
  | shiftsRead c rest i _ hs =>
    obtain ⟨-, heq⟩ | ⟨-, heq⟩ := afterShift_cases finishRdnum (shiftIn i (s.popSI rest)) <;> rw [heq]
    · exact .inr (.inl ⟨rfl, rfl, rfl⟩)
    · exact .inl ⟨hb, rfl, rfl, rfl⟩
  | shiftsExtra c rest i _ hs =>
    obtain ⟨-, heq⟩ | ⟨-, heq⟩ := afterShift_cases finishDecnum (shiftIn i (s.popSI rest)) <;> rw [heq]
    · exact .inr (.inl ⟨rfl, rfl, rfl⟩)
    · exact .inl ⟨hb, rfl, rfl, rfl⟩
  | shifts c rest i =>
    obtain ⟨-, heq⟩ | ⟨-, heq⟩ := afterShift_cases (fun t => { t with st := .dApply }) (shiftIn i (s.popSI rest)) <;> rw [heq]
    · exact .inl ⟨nofun, rfl, rfl, rfl⟩
    · exact .inl ⟨hb, rfl, rfl, rfl⟩
  | pushesUnit n =>
    obtain ⟨-, heq⟩ | ⟨-, heq⟩ := afterPush_cases (fun t => (t.setResult (n.setWidth 64)).endCommand) (shiftOut tab s) <;> rw [heq]
    · exact .inr (.inl ⟨rfl, rfl, rfl⟩)
    · exact .inl ⟨hb, rfl, rfl, rfl⟩
  | pushes after _ hs =>
    obtain ⟨-, heq⟩ | ⟨-, heq⟩ := afterPush_cases (fun t => { t with st := after }) (shiftOut tab s) <;> rw [heq]
    · obtain ⟨-, rfl⟩ | ⟨-, rfl⟩ := hs <;> exact .inl ⟨nofun, rfl, rfl, rfl⟩
    · exact .inl ⟨hb, rfl, rfl, rfl⟩
  | applies =>
    obtain ⟨v, ⟨-, heq⟩ | ⟨-, heq⟩⟩ := applyLatches_cases s <;> rw [heq] <;> exact .inl ⟨nofun, rfl, rfl, rfl⟩
  | loads f a st' _ hs => obtain ⟨-, rfl⟩ | ⟨-, rfl⟩ := hs <;> exact .inl ⟨nofun, rfl, rfl, rfl⟩
  | waits | pops | probesUnit | startsRdnum | startsDecnum | startsWrnum => exact .inl ⟨hb, rfl, rfl, rfl⟩
  | probes | begins | emits | takes | updates => exact .inl ⟨nofun, rfl, rfl, rfl⟩

/-- A block is busy where `ST` is not `IDLE` (R141). -/
theorem busy_iff (s : State) : s.busy = true ↔ s.st ≠ .idle := by simp [State.busy]

/-- The flags are kept in order (R16, R211). -/
theorem Moves.keeps_flags {tab : Config.Table} {s t : State} (h : Moves tab s t) (hflags : flagsOk s = true) : flagsOk t = true := by
  cases hr : s.rst with
  | true =>
    cases h with
    | reset => rfl
    | _ => simp_all
  | false =>
    by_cases hb : s.st = .idle
    · cases h with
      | reset hr' => rw [hr] at hr'; cases hr'
      | rests | nop => exact hflags
      | acceptsUnit | acceptsPass => exact flagsOk_of_clear rfl rfl rfl
      | raises _ _ hs | pops _ _ _ hs => exact absurd hb hs.ne_idle
      | waits _ hb' => exact absurd hb ((busy_iff s).mp hb')
      | pushes _ _ hs | loads _ _ _ _ hs => obtain ⟨hs, -⟩ | ⟨hs, -⟩ := hs <;> cases hb.symm.trans hs
      | _ => simp_all
    · obtain ⟨hd, he, hv⟩ := (flagsOk_busy ((busy_iff s).mpr hb)).mp hflags
      obtain ⟨-, hd', he', hv'⟩ | ⟨hs', hd', he'⟩ | ⟨rfl, -⟩ := h.busy_cases hr hb
      · exact flagsOk_of_clear (hd'.trans hd) (he'.trans he) (hv'.trans hv)
      · exact flagsOk_of_ended hs' hd' (he'.trans he)
      · simp [flagsOk, State.busy, hv]

/-! ## The streams -/

/-- Where a reader looks at SI, and only there or at a number boundary, the block takes items from it (R36, R170). -/
theorem siReady_data {s : State} {c : Char8} {rest : List (Item Char8)} (hsi : s.si = .data c :: rest) :
    s.siReady = true ↔ Reading s := by
  simp [State.siReady, hsi, Reading, State.unitReads, or_assoc]

theorem siReady_end {s : State} {rest : List (Item Char8)} (hsi : s.si = .endTok :: rest) :
    s.siReady = true ↔ s.st = .dNext ∨ Reading s := by
  simp [State.siReady, hsi, Reading, State.unitReads, or_assoc]

/-- Where the block offers a character (R37, R170). -/
theorem soValid_iff (s : State) :
    s.soValid = true ↔ s.st = .eShX ∨ s.st = .eShY ∨ (s.st = .unit ∧ s.upos = .shift) := by
  simp [State.soValid, or_assoc]

/-- A waiting block takes nothing and pushes nothing (R211). -/
theorem waits_iff (s : State) :
    s.waits = true ↔ ((s.st = .dNext ∨ Reading s) ∧ s.si = []) ∨ (s.st = .eNext ∧ s.pi = []) ∨
      (s.soValid = true ∧ s.soReady = false) ∨ (s.st = .dEmit ∧ s.poReady = false) := by
  simp [State.waits, State.poValid, Reading, State.unitReads, List.isEmpty_iff, or_assoc]

end Machine
end Sys2Proof
end

section
/-! PROOF. What the outputs tell of a step, the exception, and the statements about steps and the invariant
(spec/45_sequence_fsm.md R170, spec/60_exceptions.md R180, R181, spec/10_state.md R15). -/

namespace Sys2Proof

namespace Machine

open Sys2Proof.Safety

/-- What the handshake outputs say of the streams and the cursor, of a state and the next one (R15, R36, R37, R170). -/
structure HandshakesTell (tab : Config.Table) (s t : State) : Prop where
  si : t.si = if s.siReady then s.si.tail else s.si
  pi : t.pi = if s.piReady then s.pi.tail else s.pi
  so : t.so = if s.soValid && s.soReady then s.so ++ [romOf tab (nextIndex s.osr)] else s.so
  po : t.po = if s.poValid && s.poReady then s.po ++ [⟨toDegreesX s.ax, toDegreesY s.ay⟩] else s.po
  cur : s.st ≠ .idle → t.cur = s.cur +
    if (s.siReady && s.si.head? != some .endTok) || (s.piReady && s.pi.head? != some .endTok) then 1 else 0

/-- Away from number boundaries and readers the block takes nothing from SI (R36). -/
theorem siReady_eq_false {s : State} (hn : s.st ≠ .dNext) (hs : ¬ Reading s) : s.siReady = false := by
  cases hsi : s.si with
  | nil => rw [State.siReady, hsi]
  | cons it rest =>
    cases it with
    | data c => exact Bool.eq_false_iff.mpr fun h => hs ((siReady_data hsi).mp h)
    | endTok => exact Bool.eq_false_iff.mpr fun h => ((siReady_end hsi).mp h).elim hn hs

/-- A state in which no stream is looked at (R167). -/
def Quiet (s : State) : Prop :=
  s.st ≠ .dNext ∧ ¬ Reading s ∧ s.st ≠ .eNext ∧ s.soValid = false ∧ s.st ≠ .dEmit

/-- Where no handshake is complete the streams and the cursor stay. -/
theorem HandshakesTell.of_silent {tab : Config.Table} {s t : State} (hsi : s.siReady = false) (hpi : s.piReady = false)
    (hso : (s.soValid && s.soReady) = false) (hpo : (s.poValid && s.poReady) = false)
    (h : t.si = s.si ∧ t.pi = s.pi ∧ t.so = s.so ∧ t.po = s.po ∧ (s.st ≠ .idle → t.cur = s.cur)) : HandshakesTell tab s t := by
  obtain ⟨h1, h2, h3, h4, h5⟩ := h
  constructor
  case cur => intro hb; simp [hsi, hpi, h5 hb]
  all_goals simp [*]

/-- Where no stream is looked at the streams and the cursor stay. -/
theorem HandshakesTell.of_quiet {tab : Config.Table} {s t : State} (hs : Quiet s)
    (h : t.si = s.si ∧ t.pi = s.pi ∧ t.so = s.so ∧ t.po = s.po ∧ (s.st ≠ .idle → t.cur = s.cur)) : HandshakesTell tab s t := by
  obtain ⟨hn, hread, he, hv, hp⟩ := hs
  exact .of_silent (siReady_eq_false hn hread) (by simp [State.piReady, he]) (by simp [hv]) (by simp [State.poValid, hp]) h

/-- A push with the sink ready is the only handshake of its state (R37, R163, R164). -/
theorem HandshakesTell.of_push {tab : Config.Table} {s t : State} (hs : s.st = .eShX ∨ s.st = .eShY ∨ (s.st = .unit ∧ s.upos = .shift))
    (hready : s.soReady = true)
    (h : t.si = s.si ∧ t.pi = s.pi ∧ t.so = s.so ++ [romOf tab (nextIndex s.osr)] ∧ t.po = s.po ∧ t.cur = s.cur) :
    HandshakesTell tab s t := by
  obtain ⟨h1, h2, h3, h4, h5⟩ := h
  have hv := (soValid_iff s).mpr hs
  have hsi : s.siReady = false := by
    obtain hs | hs | ⟨hs, hu⟩ := hs <;> exact siReady_eq_false (by simp [hs]) (by simp [Reading, *])
  have hpi : s.piReady = false := by obtain hs | hs | ⟨hs, -⟩ := hs <;> simp [State.piReady, hs]
  have hpo : s.poValid = false := by obtain hs | hs | ⟨hs, -⟩ := hs <;> simp [State.poValid, hs]
  constructor <;> simp [*]

/-- A reader that meets an item takes it, and counts a character (R15, R36). -/
theorem HandshakesTell.of_reading {tab : Config.Table} {s t : State} {it : Item Char8} {rest : List (Item Char8)} (hs : Reading s)
    (hsi : s.si = it :: rest)
    (h : t.si = rest ∧ t.pi = s.pi ∧ t.so = s.so ∧ t.po = s.po ∧ t.cur = s.cur + if it = .endTok then 0 else 1) :
    HandshakesTell tab s t := by
  obtain ⟨h1, h2, h3, h4, h5⟩ := h
  have hready : s.siReady = true := by
    cases it with
    | data c => exact (siReady_data hsi).mpr hs
    | endTok => exact (siReady_end hsi).mpr (.inr hs)
  have hpi : s.piReady = false := by obtain hs | hs | ⟨hs, -⟩ := hs <;> simp [State.piReady, hs]
  have hso : s.soValid = false := by
    obtain hs | hs | ⟨hs, hu | hu | hu⟩ := hs <;> simp [State.soValid, *]
  have hpo : s.poValid = false := by obtain hs | hs | ⟨hs, -⟩ := hs <;> simp [State.poValid, hs]
  constructor <;> simp [*]

/-- Every move does to the streams and the cursor what the outputs tell (R170). -/
theorem Moves.handshakes {tab : Config.Table} {s t : State} (h : Moves tab s t) (hr : s.rst = false) : HandshakesTell tab s t := by
  cases h with
  | reset hr' => rw [hr] at hr'; cases hr'
  | rests _ hs => exact .of_quiet (by simp [Quiet, Reading, State.soValid, hs]) ⟨rfl, rfl, rfl, rfl, fun _ => rfl⟩
  | nop _ hs | acceptsUnit _ _ hs | acceptsPass _ _ _ hs =>
    exact .of_quiet (by simp [Quiet, Reading, State.soValid, hs]) ⟨rfl, rfl, rfl, rfl, fun hb => absurd hs hb⟩
  | waits _ _ hw =>
    have stays : s.si = s.si ∧ s.pi = s.pi ∧ s.so = s.so ∧ s.po = s.po ∧ (s.st ≠ .idle → s.cur = s.cur) :=
      ⟨rfl, rfl, rfl, rfl, fun _ => rfl⟩
    obtain ⟨hs, hsi⟩ | ⟨hs, hpi⟩ | ⟨hs, hready⟩ | ⟨hs, hready⟩ := (waits_iff s).mp hw
    · refine .of_silent (by simp [State.siReady, hsi]) ?_ ?_ ?_ stays <;> obtain hs | hs | hs | ⟨hs, hu | hu | hu⟩ := hs <;>
        simp [State.piReady, State.soValid, State.poValid, *]
    · exact .of_silent (siReady_eq_false (by simp [hs]) (by simp [Reading, hs])) (by simp [State.piReady, hpi])
        (by simp [State.soValid, hs]) (by simp [State.poValid, hs]) stays
    · have hst := (soValid_iff s).mp hs
      refine .of_silent ?_ ?_ (by simp [hready]) ?_ stays <;> obtain hs | hs | ⟨hs, hu⟩ := hst
      case refine_1.inl | refine_1.inr.inl | refine_1.inr.inr => exact siReady_eq_false (by simp [hs]) (by simp [Reading, *])
      all_goals simp [State.piReady, State.poValid, hs]
    · exact .of_silent (siReady_eq_false (by simp [hs]) (by simp [Reading, hs])) (by simp [State.piReady, hs])
        (by simp [State.soValid, hs]) (by simp [hready]) stays
  | raises rest _ hs hsi => exact .of_reading hs hsi ⟨by rw [raiseBufferExhausted_end hsi], rfl, rfl, rfl, rfl⟩
  | pops c rest _ hs hsi => exact .of_reading hs hsi ⟨rfl, rfl, rfl, rfl, rfl⟩
  | probes c rest i _ hs hsi => exact .of_reading (.inl hs) hsi ⟨rfl, rfl, rfl, rfl, rfl⟩
  | probesUnit c rest i _ hs hu hsi => exact .of_reading (.inr (.inr ⟨hs, .inr (.inl hu)⟩)) hsi ⟨rfl, rfl, rfl, rfl, rfl⟩
  | shifts c rest i _ hs hsi =>
    obtain ⟨-, heq⟩ | ⟨-, heq⟩ := afterShift_cases (fun t => { t with st := .dApply }) (shiftIn i (s.popSI rest)) <;> rw [heq] <;>
      exact .of_reading (.inr (.inl hs)) hsi ⟨rfl, rfl, rfl, rfl, rfl⟩
  | shiftsRead c rest i _ hs hu hsi =>
    obtain ⟨-, heq⟩ | ⟨-, heq⟩ := afterShift_cases finishRdnum (shiftIn i (s.popSI rest)) <;> rw [heq] <;>
      exact .of_reading (.inr (.inr ⟨hs, .inl hu⟩)) hsi ⟨rfl, rfl, rfl, rfl, rfl⟩
  | shiftsExtra c rest i _ hs hu hsi =>
    obtain ⟨-, heq⟩ | ⟨-, heq⟩ := afterShift_cases finishDecnum (shiftIn i (s.popSI rest)) <;> rw [heq] <;>
      exact .of_reading (.inr (.inr ⟨hs, .inr (.inr hu)⟩)) hsi ⟨rfl, rfl, rfl, rfl, rfl⟩
  | finishes _ _ _ _ _ _ _ _ hs hu | startsRdnum _ hs hu | startsDecnum _ hs hu | startsWrnum _ _ _ hs hu =>
    exact .of_quiet (by simp [Quiet, Reading, State.soValid, hs, hu]) ⟨rfl, rfl, rfl, rfl, fun _ => rfl⟩
  | updates _ hs => exact .of_quiet (by simp [Quiet, Reading, State.soValid, hs]) ⟨rfl, rfl, rfl, rfl, fun _ => rfl⟩
  | loads f a st' _ hs =>
    obtain ⟨hs, -⟩ | ⟨hs, -⟩ := hs <;>
      exact .of_quiet (by simp [Quiet, Reading, State.soValid, hs]) ⟨rfl, rfl, rfl, rfl, fun _ => rfl⟩
  | applies _ hs =>
    obtain ⟨v, ⟨-, heq⟩ | ⟨-, heq⟩⟩ := applyLatches_cases s <;> rw [heq] <;>
      exact .of_quiet (by simp [Quiet, Reading, State.soValid, hs]) ⟨rfl, rfl, rfl, rfl, fun _ => rfl⟩
  | begins c rest _ hs hsi =>
    exact .of_silent (by simp [State.siReady, State.unitReads, hsi, hs]) (by simp [State.piReady, hs])
      (by simp [State.soValid, hs]) (by simp [State.poValid, hs]) ⟨rfl, rfl, rfl, rfl, fun _ => rfl⟩
  | pushesUnit n _ hs hu hready =>
    obtain ⟨-, heq⟩ | ⟨-, heq⟩ := afterPush_cases (fun t => (t.setResult (n.setWidth 64)).endCommand) (shiftOut tab s) <;> rw [heq] <;>
      exact .of_push (.inr (.inr ⟨hs, hu⟩)) hready ⟨rfl, rfl, rfl, rfl, rfl⟩
  | pushes after _ hs hready =>
    have hst : s.st = .eShX ∨ s.st = .eShY ∨ (s.st = .unit ∧ s.upos = .shift) := hs.imp And.left fun h => .inl h.1
    obtain ⟨-, heq⟩ | ⟨-, heq⟩ := afterPush_cases (fun t => { t with st := after }) (shiftOut tab s) <;> rw [heq] <;>
      exact .of_push hst hready ⟨rfl, rfl, rfl, rfl, rfl⟩
  | endsDecode rest _ hs hsi =>
    constructor <;> simp [State.siReady, State.piReady, State.soValid, State.poValid, hs, hsi]
  | emits _ hs hready =>
    have hsi := siReady_eq_false (s := s) (by simp [hs]) (by simp [Reading, hs])
    constructor <;> simp [State.piReady, State.soValid, State.poValid, hs, hsi, hready]
  | endsEncode rest _ hs hpi | takes pt rest _ _ _ _ hs hpi =>
    have hsi := siReady_eq_false (s := s) (by simp [hs]) (by simp [Reading, hs])
    constructor <;> simp [State.piReady, State.soValid, State.poValid, hs, hsi, hpi]

/-! ## The invariant -/

/-- The characters on SO are kept symbols of the table (R35, R37). -/
theorem Moves.keeps_output {tab : Config.Table} (hl : tab.length = 64) {s t : State} (h : Moves tab s t)
    (hout : outputOk tab s = true) : outputOk tab t = true := by
  cases hr : s.rst with
  | true =>
    cases h with
    | reset => exact hout
    | _ => simp_all
  | false =>
    rw [outputOk, (h.handshakes hr).so]
    split
    · rw [List.all_append, Bool.and_eq_true]
      exact ⟨hout, by simp [isFillerOf_romOf hl]⟩
    · exact hout

/-- Every move keeps the invariant. -/
theorem Moves.keeps_invariant {tab : Config.Table} (hl : tab.length = 64) {s t : State} (h : Moves tab s t) (hinv : InvOf tab s) :
    InvOf tab t := by
  obtain ⟨hranges, hphase, hflags, hout⟩ := hinv
  exact ⟨h.keeps_ranges hphase hranges, h.keeps_phase hphase, h.keeps_flags hflags, h.keeps_output hl hout⟩

/-- Every step keeps the invariant, over every admissible table. -/
theorem stepOf_keeps_invariant {tab : Config.Table} (h : Config.Admissible tab) {s t : State} (hinv : InvOf tab s)
    (hstep : stepOf tab s = .next t) : InvOf tab t :=
  (stepOf_moves hinv.2.1 hstep).keeps_invariant h.length_eq hinv

/-! ## The moves of the host -/

/-- What a move of the host other than asserting `rst` can change: an input stream grows at its end, an output stream gets
shorter, the port and the lines (R214). -/
structure HostChange (s t : State) : Prop where
  st : t.st = s.st
  upos : t.upos = s.upos
  cmd : t.cmd = s.cmd
  ocnt : t.ocnt = s.ocnt
  rest : rangesOk t = rangesOk s ∧ phaseOk t = phaseOk s ∧ flagsOk t = flagsOk s
  si : ∃ more, t.si = s.si ++ more
  pi : ∃ more, t.pi = s.pi ++ more
  so : ∀ c ∈ t.so, c ∈ s.so
  rst : s.rst = false → t.rst = false

/-- A move of the host asserts `rst`, or changes what `HostChange` lists (R214). -/
theorem hostMove_cases {m : HostMove} {s t : State} (h : hostMove m s = some t) :
    (m = .assertReset ∧ t = { resetRegisters s with rst := true }) ∨ (m ≠ .assertReset ∧ HostChange s t) := by
  have unchanged (α : Type) (l : List α) : ∃ more, l = l ++ more := ⟨[], (List.append_nil l).symm⟩
  cases m with
  | assertReset => cases h; exact .inl ⟨rfl, rfl⟩
  | withdraw =>
    rw [hostMove] at h
    split at h
    · cases h
    · cases h; exact .inr ⟨nofun, rfl, rfl, rfl, rfl, ⟨rfl, rfl, rfl⟩, unchanged _ _, unchanged _ _, fun _ hc => hc, id⟩
  | takeSO =>
    rw [hostMove] at h
    split at h
    · cases h
    · next c rest hso =>
      cases h
      exact .inr ⟨nofun, rfl, rfl, rfl, rfl, ⟨rfl, rfl, rfl⟩, unchanged _ _, unchanged _ _,
        fun b hb => by rw [hso]; exact List.mem_cons_of_mem c hb, id⟩
  | takePO =>
    rw [hostMove] at h
    split at h
    · cases h
    · cases h; exact .inr ⟨nofun, rfl, rfl, rfl, rfl, ⟨rfl, rfl, rfl⟩, unchanged _ _, unchanged _ _, fun _ hc => hc, id⟩
  | appendChar c | appendSIEnd =>
    cases h; exact .inr ⟨nofun, rfl, rfl, rfl, rfl, ⟨rfl, rfl, rfl⟩, ⟨_, rfl⟩, unchanged _ _, fun _ hc => hc, id⟩
  | appendPoint pt | appendPIEnd =>
    cases h; exact .inr ⟨nofun, rfl, rfl, rfl, rfl, ⟨rfl, rfl, rfl⟩, unchanged _ _, ⟨_, rfl⟩, fun _ hc => hc, id⟩
  | present c | setSOReady b | setPOReady b | readStatus =>
    cases h; exact .inr ⟨nofun, rfl, rfl, rfl, rfl, ⟨rfl, rfl, rfl⟩, unchanged _ _, unchanged _ _, fun _ hc => hc, id⟩
  | releaseReset =>
    cases h; exact .inr ⟨nofun, rfl, rfl, rfl, rfl, ⟨rfl, rfl, rfl⟩, unchanged _ _, unchanged _ _, fun _ hc => hc, fun _ => rfl⟩

/-- Every move of the host keeps the invariant (R214). -/
theorem hostMove_keeps_invariant (tab : Config.Table) (m : HostMove) (s t : State) (hinv : InvOf tab s)
    (h : hostMove m s = some t) : InvOf tab t := by
  obtain ⟨hranges, hphase, hflags, hout⟩ := hinv
  obtain ⟨-, rfl⟩ | ⟨-, hchange⟩ := hostMove_cases h
  · exact ⟨rfl, rfl, rfl, hout⟩
  · obtain ⟨h1, h2, h3⟩ := hchange.rest
    refine ⟨h1.trans hranges, h2.trans hphase, h3.trans hflags, ?_⟩
    rw [outputOk, List.all_eq_true] at hout ⊢
    exact fun c hc => hout c (hchange.so c hc)

end Machine

open Sys2Proof.Machine Sys2Proof.Safety

/-! ## The statements -/

/-- Settles O54: a step is one of the moves (`stepOf_moves`), and each keeps the four parts of the invariant; this machine is the
case of its own table. -/
theorem stepKeepsTheInvariant : Obligations.StepKeepsTheInvariant := by
  refine ⟨fun s t hinv hstep => ?machine, fun tab h s t hinv hstep => stepOf_keeps_invariant h hinv hstep⟩
  case machine =>
    rw [step_eq_stepOf] at hstep
    exact stepOf_keeps_invariant alphabet_admissible hinv hstep

/-- Settles O55: `hostMove_keeps_invariant`. -/
theorem hostMovesKeepTheInvariant : Obligations.HostMovesKeepTheInvariant := hostMove_keeps_invariant

/-- Settles O57: a reader raises at `END` (`readStep_end`), and only the raising move sets `ERR` (`Moves.busy_cases`). -/
theorem exceptionIsTakenExactlyAtEnd : Obligations.ExceptionIsTakenExactlyAtEnd := by
  rintro s ⟨-, hphase, -, -⟩ hr
  have reading : (s.st = .dProbe ∨ s.st = .dExtra ∨ s.unitReads = true) ↔ Reading s := by rw [unitReads_iff]; rfl
  rw [reading, step_eq_stepOf]
  refine ⟨fun rest hsi hs => ?raises, fun t hstep he he' => ?only⟩
  case raises => rw [stepOf_reads hr hphase hs, readStep_end hsi, raiseBufferExhausted_end hsi]
  case only =>
    have hmove := stepOf_moves hphase hstep
    by_cases hb : s.st = .idle
    · cases hmove with
      | raises rest _ hs hsi => exact ⟨⟨rest, hsi⟩, hs⟩
      | _ => simp_all
    · obtain ⟨-, -, herr, -⟩ | ⟨-, -, herr⟩ | ⟨-, hs, hsi⟩ := hmove.busy_cases hr hb
      · cases (herr.trans he).symm.trans he'
      · cases (herr.trans he).symm.trans he'
      · exact ⟨hsi, hs⟩

/-- Settles O58: `Moves.handshakes`. -/
theorem handshakesTellTheStreams : Obligations.HandshakesTellTheStreams := by
  rintro s t ⟨-, hphase, -, -⟩ hr hstep
  rw [step_eq_stepOf] at hstep
  have htell := (stepOf_moves hphase hstep).handshakes hr
  exact ⟨htell.si, htell.pi, htell.so, htell.po⟩

/-- Settles O59: `Moves.handshakes`. -/
theorem cursorCountsPops : Obligations.CursorCountsPops := by
  rintro s t ⟨-, hphase, -, -⟩ hr hb hstep
  rw [step_eq_stepOf] at hstep
  exact ((stepOf_moves hphase hstep).handshakes hr).cur hb

end Sys2Proof
end

section
/-! PROOF. What a step does not look at: the command port in a busy block (spec/45_sequence_fsm.md R142), and, in a DECODE pass,
everything R149 keeps out of it. Each operation commutes with a change of those fields. -/

namespace Sys2Proof

namespace Machine

open Sys2Proof.Safety

/-- A change of the next state, where there is one. -/
def onNext (f : State → State) : Result → Result
  | .next t => .next (f t)
  | .fault r => .fault r
  | .refused r => .refused r

theorem onNext_next {f : State → State} {r : Result} {t : State} (h : r = .next t) : onNext f r = .next (f t) := by
  rw [h]; rfl

/-- A change that leaves `CNT` commutes with the end test of a read. -/
theorem afterShift_comm {f fin : State → State} (hcnt : ∀ t, (f t).cnt = t.cnt) (hfin : ∀ t, fin (f t) = f (fin t)) (t : State) :
    afterShift fin (f t) = f (afterShift fin t) := by
  by_cases h : t.cnt = 0#3
  · rw [afterShift_last h, afterShift_last ((hcnt t).trans h), hfin]
  · rw [afterShift_more h, afterShift_more (by rwa [hcnt])]

/-- A change that leaves `OCNT` commutes with the end test of an emission. -/
theorem afterPush_comm {f fin : State → State} (hocnt : ∀ t, (f t).ocnt = t.ocnt) (hfin : ∀ t, fin (f t) = f (fin t)) (t : State) :
    afterPush fin (f t) = f (afterPush fin t) := by
  by_cases h : t.ocnt = 0#3
  · rw [afterPush_last h, afterPush_last ((hocnt t).trans h), hfin]
  · rw [afterPush_more h, afterPush_more (by rwa [hocnt])]

/-! ## The port -/

/-- The state with another command, or none, on the port. -/
def withPort (q : Option Command) (s : State) : State := { s with port := q }

theorem consumeSymbol_withPort (q : Option Command) (i : Index) (s : State) :
    consumeSymbol i (withPort q s) = onNext (withPort q) (consumeSymbol i s) := by
  have after (fin : State → State) (hfin : ∀ t, fin (withPort q t) = withPort q (fin t)) (u : State) :
      Host.Outcome.next (afterShift fin (withPort q u)) = onNext (withPort q) (.next (afterShift fin u)) :=
    congrArg Host.Outcome.next (afterShift_comm (f := withPort q) (fun _ => rfl) hfin u)
  unfold consumeSymbol
  dsimp only [withPort]
  split
  · split
    case h_2 rest _ _ _ _ => exact after (fun t : State => { t with st := .dApply }) (fun _ => rfl) (shiftIn i (s.popSI rest))
    case h_3 rest _ _ _ _ _ => exact after finishRdnum (fun _ => rfl) (shiftIn i (s.popSI rest))
    case h_5 rest _ _ _ _ _ => exact after finishDecnum (fun _ => rfl) (shiftIn i (s.popSI rest))
    all_goals rfl
  all_goals rfl

theorem consumeFiller_withPort (q : Option Command) (s : State) :
    consumeFiller (withPort q s) = onNext (withPort q) (consumeFiller s) := by
  unfold consumeFiller
  dsimp only [withPort]
  split
  · split <;> rfl
  all_goals rfl

theorem readStep_withPort (tab : Config.Table) (q : Option Command) (s : State) :
    readStep tab (withPort q s) = onNext (withPort q) (readStep tab s) := by
  unfold readStep
  dsimp only [withPort]
  split
  case h_3 c _ _ =>
    split
    · exact consumeSymbol_withPort q _ s
    · exact consumeFiller_withPort q s
  all_goals rfl

theorem unitRun_withPort (tab : Config.Table) (i : Instr) (q : Option Command) (s : State) :
    unitRun tab i (withPort q s) = onNext (withPort q) (unitRun tab i s) := by
  cases i with
  | rdnum n =>
    change runRdnum tab n (withPort q s) = onNext (withPort q) (runRdnum tab n s)
    by_cases hu : s.upos = .entry
    · by_cases hn : n = 0#3
      · subst hn; rw [runRdnum_zero tab hu, runRdnum_zero tab (by exact hu)]; rfl
      · rw [runRdnum_entry tab hu hn, runRdnum_entry tab (by exact hu) hn]; rfl
    · rw [runRdnum_reads tab n hu, runRdnum_reads tab n (by exact hu), readStep_withPort]
  | decnum =>
    change runDecnum tab (withPort q s) = onNext (withPort q) (runDecnum tab s)
    by_cases hu : s.upos = .entry
    · rw [runDecnum_entry tab hu, runDecnum_entry tab (by exact hu)]; rfl
    · rw [runDecnum_reads tab hu, runDecnum_reads tab (by exact hu), readStep_withPort]
  | wrnum d a =>
    change runWrnum tab d a (withPort q s) = onNext (withPort q) (runWrnum tab d a s)
    by_cases hu : s.upos = .entry
    · rw [runWrnum_entry tab d a hu, runWrnum_entry tab d a (by exact hu)]; rfl
    · rw [runWrnum_pushes tab d a hu, runWrnum_pushes tab d a (by exact hu)]
      cases hready : s.soReady
      · rw [pushLoop_waits tab _ hready, pushLoop_waits tab _ (by exact hready)]; rfl
      · rw [pushLoop_ready tab _ hready, pushLoop_ready tab _ (by exact hready)]
        exact congrArg Host.Outcome.next (afterPush_comm (f := withPort q)
          (fin := fun t => (t.setResult ((encoderCount d).setWidth 64)).endCommand) (fun _ => rfl) (fun _ => rfl) (shiftOut tab s))
  | idxof c =>
    change Host.Outcome.next (lookupResult tab c (withPort q s)).endCommand = .next (withPort q (lookupResult tab c s).endCommand)
    cases hc : revOf tab c with
    | none => rw [lookupResult_of_none hc, lookupResult_of_none hc]; rfl
    | some k => rw [lookupResult_of_some hc, lookupResult_of_some hc]; rfl
  | tofixx w =>
    change Host.Outcome.next (returnFixed (toFixedX w) (withPort q s)) = .next (withPort q (returnFixed (toFixedX w) s))
    cases toFixedX w <;> rfl
  | tofixy w =>
    change Host.Outcome.next (returnFixed (toFixedY w) (withPort q s)) = .next (withPort q (returnFixed (toFixedY w) s))
    cases toFixedY w <;> rfl
  | aadd a _ | aload a _ | adiff a _ => cases a <;> rfl
  | _ => rfl

theorem encodeNext_withPort (q : Option Command) (s : State) :
    encodeNext (withPort q s) = onNext (withPort q) (encodeNext s) := by
  unfold encodeNext
  dsimp only [withPort]
  split
  case h_3 pt _ _ => cases toFixedX pt.x <;> cases toFixedY pt.y <;> rfl
  all_goals rfl

theorem encodeShift_withPort (tab : Config.Table) (after : FsmState) (q : Option Command) (s : State) :
    encodeShift tab after (withPort q s) = onNext (withPort q) (encodeShift tab after s) := by
  cases hready : s.soReady
  · rw [encodeShift_waits tab after hready, encodeShift_waits tab after (by exact hready)]; rfl
  · rw [encodeShift_ready tab after hready, encodeShift_ready tab after (by exact hready)]
    exact congrArg Host.Outcome.next (afterPush_comm (f := withPort q) (fin := fun t => { t with st := after }) (fun _ => rfl)
      (fun _ => rfl) (shiftOut tab s))

theorem applyLatches_withPort (q : Option Command) (s : State) : applyLatches (withPort q s) = withPort q (applyLatches s) := by
  obtain ⟨st, upos, ax, ay, axis, p, tier, _⟩ := s
  cases tier <;> cases axis <;> rfl

theorem decodeNext_withPort (q : Option Command) (s : State) :
    decodeNext (withPort q s) = onNext (withPort q) (decodeNext s) := by
  unfold decodeNext
  dsimp only [withPort]
  split <;> rfl

/-- With the sink ready `D_EMIT` pushes the point (R155). -/
theorem decodeEmit_ready {s : State} (h : s.poReady = true) :
    decodeEmit s = .next { s.pushPO ⟨toDegreesX s.ax, toDegreesY s.ay⟩ with axis := .x, st := .dNext } := if_pos h

/-- Without the sink `D_EMIT` waits (R37). -/
theorem decodeEmit_waits {s : State} (h : s.poReady = false) : decodeEmit s = .next s := if_neg (by simp [h])

theorem decodeEmit_withPort (q : Option Command) (s : State) :
    decodeEmit (withPort q s) = onNext (withPort q) (decodeEmit s) := by
  cases hready : s.poReady
  · rw [decodeEmit_waits hready, decodeEmit_waits (by exact hready)]; rfl
  · rw [decodeEmit_ready hready, decodeEmit_ready (by exact hready)]; rfl

/-- NOP, DECODE and ENCODE latched in `UNIT` do nothing (log 22). -/
theorem execOf_notUnitOp (tab : Config.Table) {c : Command} {i : Instr} (hd : decodeCommand c = .ok i) (hi : isUnitOp i ≠ true)
    {s : State} (hs : s.st = .unit) : execOf tab i s = .next s := by
  unfold decodeCommand at hd
  split at hd
  case h_1 => cases hd; exact (execOf_alphabet .nop s).trans (by rw [exec, execNop, hs])
  case h_15 => cases hd; rw [execOf, execDecodeOf, hs]
  case h_16 => cases hd; rw [execOf, execEncodeOf, hs]
  case h_4 =>
    split at hd
    · cases hd
    · next hcount => cases hd; exact absurd (decide_eq_true (BitVec.not_lt.mp hcount)) hi
  all_goals cases hd; exact absurd rfl hi

/-- A step of a busy block does not look at the port (R142, D13). -/
theorem stepOf_withPort (tab : Config.Table) (q : Option Command) {s : State} (hb : s.st ≠ .idle) :
    stepOf tab (withPort q s) = onNext (withPort q) (stepOf tab s) := by
  cases hr : s.rst with
  | true => rw [stepOf_reset hr, stepOf_reset (by exact hr)]; rfl
  | false =>
    have hr' : (withPort q s).rst = false := hr
    cases hs : s.st <;> have hs' := (show (withPort q s).st = s.st from rfl).trans hs
    case idle => exact absurd hs hb
    case unit =>
      cases hd : decodeCommand s.cmd with
      | error e => rw [stepOf_rejected tab hr (.inr ⟨hs, rfl⟩) hd, stepOf_rejected tab hr' (.inr ⟨hs', rfl⟩) hd]; rfl
      | ok i =>
        rw [stepOf_unit hr hs hd, stepOf_unit hr' hs' hd]
        by_cases hi : isUnitOp i = true
        · rw [execOf_unit tab hi hs, execOf_unit tab hi hs', unitRun_withPort]
        · rw [execOf_notUnitOp tab hd hi hs, execOf_notUnitOp tab hd hi hs']; rfl
    case dNext =>
      rw [stepOf_dNext hr hs, stepOf_dNext hr' hs', decodeNext_withPort]
    case dProbe => rw [stepOf_reading hr (.inl hs), stepOf_reading hr' (.inl hs'), readStep_withPort]
    case dExtra => rw [stepOf_reading hr (.inr hs), stepOf_reading hr' (.inr hs'), readStep_withPort]
    case dApply =>
      rw [stepOf_dApply hr hs, stepOf_dApply hr' hs', execOf_formOf tab hs, execOf_formOf tab hs', applyLatches_withPort]; rfl
    case dEmit =>
      rw [stepOf_dEmit hr hs, stepOf_dEmit hr' hs', decodeEmit_withPort]
    case eNext => rw [stepOf_eNext hr hs, stepOf_eNext hr' hs', encodeNext_withPort]
    case eNumX => rw [stepOf_eNumX hr hs, stepOf_eNumX hr' hs']; rfl
    case eShX => rw [stepOf_eShX hr hs, stepOf_eShX hr' hs', encodeShift_withPort]
    case eNumY => rw [stepOf_eNumY hr hs, stepOf_eNumY hr' hs']; rfl
    case eShY => rw [stepOf_eShY hr hs, stepOf_eShY hr' hs', encodeShift_withPort]
    case eUpd => rw [stepOf_eUpd hr hs, stepOf_eUpd hr' hs']; rfl

/-! ## What a DECODE pass neither reads nor writes -/

theorem consumeSymbol_decodeView (i : Index) {s : State} (hs : s.st = .dProbe ∨ s.st = .dExtra) :
    consumeSymbol i (decodeView s) = onNext decodeView (consumeSymbol i s) := by
  cases hsi : s.si with
  | nil => simp only [consumeSymbol, hsi, decodeView, onNext]
  | cons it rest =>
    cases it with
    | endTok => simp only [consumeSymbol, hsi, decodeView, onNext]
    | data c =>
      have hsi' : (decodeView s).si = .data c :: rest := hsi
      rcases hs with hs | hs
      · rw [consumeSymbol_dProbe hsi hs, consumeSymbol_dProbe hsi' hs]; rfl
      · rw [consumeSymbol_dExtra hsi hs, consumeSymbol_dExtra hsi' hs]
        exact congrArg Host.Outcome.next (afterShift_comm (f := decodeView) (fin := fun t => { t with st := .dApply }) (fun _ => rfl)
          (fun _ => rfl) (shiftIn i (s.popSI rest)))

theorem readStep_decodeView (tab : Config.Table) {s : State} (hs : s.st = .dProbe ∨ s.st = .dExtra) :
    readStep tab (decodeView s) = onNext decodeView (readStep tab s) := by
  cases hsi : s.si with
  | nil => rw [readStep_nil hsi, readStep_nil (by exact hsi)]; rfl
  | cons it rest =>
    have hsi' : (decodeView s).si = it :: rest := hsi
    cases it with
    | endTok => rw [readStep_end hsi, readStep_end hsi']; rfl
    | data c =>
      cases hc : revOf tab c with
      | some i => rw [readStep_symbol hsi hc, readStep_symbol hsi' hc, consumeSymbol_decodeView i hs]
      | none =>
        have hread : Reading s := hs.imp_right .inl
        rw [readStep_pops hread hsi hc, readStep_pops (by exact hread) hsi' hc]; rfl

theorem applyLatches_decodeView (s : State) : applyLatches (decodeView s) = decodeView (applyLatches s) := by
  obtain ⟨st, upos, ax, ay, axis, p, tier, _⟩ := s
  cases tier <;> cases axis <;> rfl

/-- A step of a DECODE pass commutes with the view of what the pass uses (R149, D18). -/
theorem stepOf_decodeView (tab : Config.Table) {s : State} (hd : InDecode s) :
    stepOf tab (decodeView s) = onNext decodeView (stepOf tab s) := by
  cases hr : s.rst with
  | true => rw [stepOf_reset hr, stepOf_reset (by exact hr)]; rfl
  | false =>
    have hr' : (decodeView s).rst = false := hr
    obtain hs | hs | hs | hs | hs := hd
    · rw [stepOf_dNext hr hs, stepOf_dNext hr' (by exact hs)]
      unfold decodeNext
      dsimp only [decodeView]
      split <;> rfl
    · rw [stepOf_reading hr (.inl hs), stepOf_reading hr' (.inl (by exact hs)), readStep_decodeView tab (.inl hs)]
    · rw [stepOf_reading hr (.inr hs), stepOf_reading hr' (.inr (by exact hs)), readStep_decodeView tab (.inr hs)]
    · rw [stepOf_dApply hr hs, stepOf_dApply hr' (by exact hs), execOf_formOf tab hs, execOf_formOf tab (by exact hs),
        applyLatches_decodeView]
      rfl
    · rw [stepOf_dEmit hr hs, stepOf_dEmit hr' (by exact hs)]
      cases hready : s.poReady
      · rw [decodeEmit_waits hready, decodeEmit_waits (by exact hready)]; rfl
      · rw [decodeEmit_ready hready, decodeEmit_ready (by exact hready)]; rfl

end Machine

open Sys2Proof.Machine Sys2Proof.Safety

/-- Settles O17: `stepOf_withPort`. -/
theorem busyBlockIgnoresThePort : Obligations.BusyBlockIgnoresThePort := by
  intro s t q hb hstep
  rw [step_eq_stepOf] at hstep ⊢
  exact (stepOf_withPort _ q hb).trans (onNext_next hstep)

/-- A result whose change is a next state is itself one. -/
theorem next_of_onNext {f : State → State} {r : Result} {u : State} (h : onNext f r = .next u) : ∃ t, r = .next t ∧ f t = u := by
  cases r with
  | next t => exact ⟨t, rfl, Host.Outcome.next.inj h⟩
  | fault r => cases h
  | refused r => cases h

/-- Settles O60: both states step as their common view does (`stepOf_decodeView`). -/
theorem decodeSeesOnlyItsOwnState : Obligations.DecodeSeesOnlyItsOwnState := by
  intro s s' t hd hview hstep
  have hd' : InDecode s' := by
    have hst : s.st = s'.st := by
      change (decodeView s).st = (decodeView s').st
      rw [hview]
    rwa [InDecode, hst] at hd
  rw [step_eq_stepOf] at hstep ⊢
  have hs := (stepOf_decodeView _ hd).trans (onNext_next hstep)
  rw [hview, stepOf_decodeView _ hd'] at hs
  exact next_of_onNext hs

end Sys2Proof
end

section
/-! PROOF. Progress (spec/60_exceptions.md R180 to R182, spec/70_reset_and_hazards.md R210 to R214). First that a good state always
has a next one; then where a busy block holds its state; then a measure of what a command has still to do, which every step that does not
wait makes smaller and no move of the host makes larger; last the end of every command on a fair run. -/

namespace Sys2Proof

namespace Machine

open Sys2Proof.Safety

/-! ## There is always a next state -/

theorem consumeSymbol_next (i : Index) (s : State) : ∃ t, consumeSymbol i s = .next t := by
  unfold consumeSymbol
  split
  · split <;> exact ⟨_, rfl⟩
  all_goals exact ⟨_, rfl⟩

theorem consumeFiller_next (s : State) : ∃ t, consumeFiller s = .next t := by
  unfold consumeFiller
  split
  · split <;> exact ⟨_, rfl⟩
  all_goals exact ⟨_, rfl⟩

theorem readStep_next (tab : Config.Table) (s : State) : ∃ t, readStep tab s = .next t := by
  unfold readStep
  split
  case h_3 c _ _ =>
    split
    · exact consumeSymbol_next _ s
    · exact consumeFiller_next s
  all_goals exact ⟨_, rfl⟩

theorem pushLoop_next (tab : Config.Table) (n : BitVec 3) (s : State) : ∃ t, pushLoop tab n s = .next t := by
  unfold pushLoop
  split <;> exact ⟨_, rfl⟩

theorem encodeShift_next (tab : Config.Table) (after : FsmState) (s : State) : ∃ t, encodeShift tab after s = .next t := by
  unfold encodeShift
  split <;> exact ⟨_, rfl⟩

theorem decodeNext_next (s : State) : ∃ t, decodeNext s = .next t := by
  unfold decodeNext
  split <;> exact ⟨_, rfl⟩

theorem decodeEmit_next (s : State) : ∃ t, decodeEmit s = .next t := by
  unfold decodeEmit
  split <;> exact ⟨_, rfl⟩

theorem encodeNext_next (s : State) : ∃ t, encodeNext s = .next t := by
  unfold encodeNext
  split <;> exact ⟨_, rfl⟩

theorem unitRun_next (tab : Config.Table) (i : Instr) (s : State) : ∃ t, unitRun tab i s = .next t := by
  cases i with
  | rdnum n =>
    change ∃ t, runRdnum tab n s = .next t
    by_cases hu : s.upos = .entry
    · by_cases hn : n = 0#3
      · subst hn; exact ⟨_, runRdnum_zero tab hu⟩
      · exact ⟨_, runRdnum_entry tab hu hn⟩
    · rw [runRdnum_reads tab n hu]; exact readStep_next tab s
  | decnum =>
    change ∃ t, runDecnum tab s = .next t
    by_cases hu : s.upos = .entry
    · exact ⟨_, runDecnum_entry tab hu⟩
    · rw [runDecnum_reads tab hu]; exact readStep_next tab s
  | wrnum d a =>
    change ∃ t, runWrnum tab d a s = .next t
    by_cases hu : s.upos = .entry
    · exact ⟨_, runWrnum_entry tab d a hu⟩
    · rw [runWrnum_pushes tab d a hu]; exact pushLoop_next tab _ s
  | _ => exact ⟨_, rfl⟩

/-- A command is a unit operation, NOP, DECODE or ENCODE (R61). -/
theorem decodeCommand_kinds {c : Command} {i : Instr} (hd : decodeCommand c = .ok i) :
    isUnitOp i = true ∨ i = .nop ∨ i = .decode ∨ i = .encode := by
  by_cases h0 : c.op.toNat = 0
  · simp only [decodeCommand, h0] at hd; cases hd; exact .inr (.inl rfl)
  · by_cases h13 : c.op.toNat ≤ 13
    · exact .inl (isUnitOp_of_decodeCommand hd (by omega) h13)
    · by_cases h14 : c.op.toNat = 14
      · simp only [decodeCommand, h14] at hd; cases hd; exact .inr (.inr (.inl rfl))
      · have h15 : c.op.toNat = 15 := by omega
        simp only [decodeCommand, h15] at hd; cases hd; exact .inr (.inr (.inr rfl))

/-- A presented command that is not rejected is accepted (R142, R143). -/
theorem execOf_idle_next (tab : Config.Table) {c : Command} {i : Instr} (hd : decodeCommand c = .ok i) {s : State} (hs : s.st = .idle)
    (hp : s.port = some c) : ∃ t, execOf tab i s = .next t := by
  obtain hi | rfl | rfl | rfl := decodeCommand_kinds hd
  · exact ⟨_, (execOf_eq_unitCommand tab hi s).trans (unitCommand_idle hs hp)⟩
  · exact ⟨_, (execOf_alphabet .nop s).trans (exec_nop_idle hs)⟩
  · exact ⟨_, by rw [execOf, execDecodeOf, hs]; exact acceptPass_some .dNext hp⟩
  · exact ⟨_, by rw [execOf, execEncodeOf, hs]; exact acceptPass_some .eNext hp⟩

/-- From a state whose latches fit it, with an allowed command on the port, there is a next state (R182, U6). -/
theorem stepOf_next (tab : Config.Table) {s : State} (hphase : phaseOk s = true) (hport : PortAllowed s) :
    ∃ t, stepOf tab s = .next t := by
  cases hr : s.rst with
  | true => exact ⟨_, stepOf_reset hr⟩
  | false =>
    cases hs : s.st with
    | idle =>
      cases hp : s.port with
      | none => exact ⟨_, stepOf_idle_none hr hs hp⟩
      | some c =>
        cases hd : decodeCommand c with
        | error e =>
          obtain ⟨-, hop, hlt⟩ := decodeCommand_error hd
          have hle := hport c hp hop
          have := BitVec.lt_def.mp hlt
          simp only [BitVec.toNat_ofNat] at this
          omega
        | ok i => rw [stepOf_idle hr hs hp hd]; exact execOf_idle_next tab hd hs hp
    | unit =>
      obtain ⟨i, hd, hi⟩ := unit_decodes hphase hs
      rw [stepOf_unitRun hr hs hd hi]
      exact unitRun_next tab i s
    | dNext => rw [stepOf_dNext hr hs]; exact decodeNext_next s
    | dProbe => rw [stepOf_reading hr (.inl hs)]; exact readStep_next tab s
    | dExtra => rw [stepOf_reading hr (.inr hs)]; exact readStep_next tab s
    | dApply => exact ⟨_, (stepOf_dApply hr hs).trans (execOf_formOf tab hs)⟩
    | dEmit => rw [stepOf_dEmit hr hs]; exact decodeEmit_next s
    | eNext => rw [stepOf_eNext hr hs]; exact encodeNext_next s
    | eNumX => exact ⟨_, stepOf_eNumX hr hs⟩
    | eShX => rw [stepOf_eShX hr hs]; exact encodeShift_next tab _ s
    | eNumY => exact ⟨_, stepOf_eNumY hr hs⟩
    | eShY => rw [stepOf_eShY hr hs]; exact encodeShift_next tab _ s
    | eUpd => exact ⟨_, stepOf_eUpd hr hs⟩

/-! ## Where a busy block holds its state -/

/-- A busy block that waits keeps its state (R211). -/
theorem stepOf_waits {tab : Config.Table} {s : State} (hr : s.rst = false) (hphase : phaseOk s = true) (hw : s.waits = true) :
    stepOf tab s = .next s := by
  obtain ⟨hs | hs, hsi⟩ | ⟨hs, hpi⟩ | ⟨hv, hready⟩ | ⟨hs, hready⟩ := (waits_iff s).mp hw
  · rw [stepOf_dNext hr hs, decodeNext, hsi]
  · rw [stepOf_reads hr hphase hs, readStep_nil hsi]
  · rw [stepOf_eNext hr hs, encodeNext, hpi]
  · obtain hs | hs | ⟨hs, hu⟩ := (soValid_iff s).mp hv
    · rw [stepOf_eShX hr hs, encodeShift_waits tab _ hready]
    · rw [stepOf_eShY hr hs, encodeShift_waits tab _ hready]
    · rw [stepOf_shift hr hphase hs hu, pushLoop_waits tab _ hready]
  · rw [stepOf_dEmit hr hs, decodeEmit_waits hready]

/-- A move of a busy block that leads back to the same state is a wait (R211). -/
theorem Moves.waits_of_eq {tab : Config.Table} {s t : State} (h : Moves tab s t) (hr : s.rst = false) (hb : s.st ≠ .idle)
    (ht : t = s) : s.waits = true := by
  have same {α : Type} (f : State → α) (hne : f t ≠ f s) : s.waits = true := absurd (congrArg f ht) hne
  cases h with
  | waits _ _ hw => exact hw
  | reset hr' => rw [hr] at hr'; cases hr'
  | rests _ hs | nop _ hs | acceptsUnit _ _ hs | acceptsPass _ _ _ hs => exact absurd hs hb
  | raises | finishes | endsDecode | endsEncode => exact same State.st hb.symm
  | pops | probes | probesUnit | takes => exact same State.cur (Nat.succ_ne_self _)
  | shifts c rest i =>
    refine same State.cur ?_
    obtain ⟨-, heq⟩ | ⟨-, heq⟩ := afterShift_cases (fun t => { t with st := .dApply }) (shiftIn i (s.popSI rest)) <;> rw [heq] <;>
      exact Nat.succ_ne_self _
  | shiftsRead c rest i =>
    refine same State.cur ?_
    obtain ⟨-, heq⟩ | ⟨-, heq⟩ := afterShift_cases finishRdnum (shiftIn i (s.popSI rest)) <;> rw [heq] <;> exact Nat.succ_ne_self _
  | shiftsExtra c rest i =>
    refine same State.cur ?_
    obtain ⟨-, heq⟩ | ⟨-, heq⟩ := afterShift_cases finishDecnum (shiftIn i (s.popSI rest)) <;> rw [heq] <;> exact Nat.succ_ne_self _
  | pushesUnit n =>
    refine same State.so ?_
    obtain ⟨-, heq⟩ | ⟨-, heq⟩ := afterPush_cases (fun t => (t.setResult (n.setWidth 64)).endCommand) (shiftOut tab s) <;> rw [heq] <;>
      simp
  | pushes after =>
    refine same State.so ?_
    obtain ⟨-, heq⟩ | ⟨-, heq⟩ := afterPush_cases (fun t => { t with st := after }) (shiftOut tab s) <;> rw [heq] <;> simp
  | startsRdnum _ _ hu | startsDecnum _ _ hu | startsWrnum _ _ _ _ hu => exact same State.upos (by simp [hu])
  | begins _ _ _ hs | emits _ hs | updates _ hs => exact same State.st (by simp [hs])
  | loads _ _ _ _ hs => obtain ⟨hs, rfl⟩ | ⟨hs, rfl⟩ := hs <;> exact same State.st (by simp [hs])
  | applies _ hs =>
    refine same State.st ?_
    obtain ⟨v, ⟨-, heq⟩ | ⟨-, heq⟩⟩ := applyLatches_cases s <;> rw [heq] <;> simp [hs]

/-- A busy block holds its state exactly where it waits (R211, log 8). -/
theorem stepOf_eq_self_iff {tab : Config.Table} {s : State} (hr : s.rst = false) (hphase : phaseOk s = true) (hb : s.busy = true) :
    stepOf tab s = .next s ↔ s.waits = true :=
  ⟨fun h => (stepOf_moves hphase h).waits_of_eq hr ((busy_iff s).mp hb) rfl, stepOf_waits hr hphase⟩

/-! ## What a command has still to do -/

/-- The items in front of the first `END` of a stream. -/
def itemsToEnd {α : Type} : List (Item α) → Nat
  | [] => 0
  | .endTok :: _ => 0
  | .data _ :: rest => itemsToEnd rest + 1

/-- Behind an `END` a stream may grow: the items in front of it stay (R214). -/
theorem itemsToEnd_append {α : Type} {items : List (Item α)} (h : .endTok ∈ items) (more : List (Item α)) :
    itemsToEnd (items ++ more) = itemsToEnd items := by
  induction items with
  | nil => cases h
  | cons it items ih =>
    cases it with
    | endTok => rfl
    | data a => exact congrArg (· + 1) (ih ((List.mem_cons.mp h).resolve_left nofun))

/-- The stream a command reads holds its `END` (R212). -/
def Fed (s : State) : Prop := (s.runsOnSI = true → .endTok ∈ s.si) ∧ (s.runsOnPI = true → .endTok ∈ s.pi)

/-- The items a command has still to take. -/
def itemsLeft (s : State) : Nat :=
  if s.runsOnSI then itemsToEnd s.si else if s.runsOnPI then itemsToEnd s.pi else 0

/-- How far a command is from its next item, or from its end, by its state (R167). -/
def stepsLeft (s : State) : Nat :=
  match s.st, s.upos with
  | .unit, .entry => 50
  | .unit, .shift => s.ocnt.toNat
  | .unit, _ => 1
  | .dApply, _ => 4
  | .dEmit, _ => 3
  | .dNext, _ => 2
  | .dProbe, _ => 1
  | .eNumX, _ => 40
  | .eShX, _ => 21 + s.ocnt.toNat
  | .eNumY, _ => 20
  | .eShY, _ => 3 + s.ocnt.toNat
  | .eUpd, _ => 2
  | .eNext, _ => 1
  | .dExtra, _ => 0
  | .idle, _ => 0

/-- The measure: an item costs more than everything between two items. -/
def toGo (s : State) : Nat := 64 * itemsLeft s + stepsLeft s

theorem stepsLeft_lt (s : State) : stepsLeft s < 64 := by
  have := s.ocnt.isLt
  unfold stepsLeft
  split <;> omega

/-- The streams a command reads are decided by `ST` and the latched command (R167). -/
theorem runsOn_eq {s t : State} (hst : t.st = s.st) (hcmd : t.cmd = s.cmd) :
    t.runsOnSI = s.runsOnSI ∧ t.runsOnPI = s.runsOnPI := by
  simp only [State.runsOnSI, State.runsOnPI, hst, hcmd, and_self]

/-- Only one stream is read. -/
theorem runsOnPI_of_runsOnSI {s : State} (h : s.runsOnSI = true) : s.runsOnPI = false := by
  cases hs : s.st <;> simp_all [State.runsOnSI, State.runsOnPI]

/-- Where a reader looks at SI a command that reads SI runs. -/
theorem Reading.runsOnSI {s : State} (h : Reading s) (hphase : phaseOk s = true) : s.runsOnSI = true := by
  obtain hs | hs | ⟨hs, hu | hu | hu⟩ := h <;> simp_all [State.runsOnSI, phaseOk, unitOk]

/-- Taking a character of SI is progress. -/
theorem progress_of_pop {s t : State} {c : Char8} {rest : List (Item Char8)} (hfed : Fed s) (hsi : s.si = .data c :: rest)
    (hs : s.runsOnSI = true) (ht : t.runsOnSI = true) (htsi : t.si = rest) : toGo t < toGo s ∧ Fed t := by
  have hmem := hfed.1 hs
  rw [hsi] at hmem
  have hlt := stepsLeft_lt t
  refine ⟨?_, fun _ => htsi ▸ (List.mem_cons.mp hmem).resolve_left nofun, fun h => ?_⟩
  · simp only [toGo, itemsLeft, hs, ht, if_true, hsi, htsi, itemsToEnd]
    omega
  · rw [runsOnPI_of_runsOnSI ht] at h; cases h

/-- Taking a point of PI is progress. -/
theorem progress_of_take {s t : State} {pt : Point} {rest : List (Item Point)} (hfed : Fed s) (hpi : s.pi = .data pt :: rest)
    (hs : s.st = .eNext) (ht : t.st = .eNumX) (htpi : t.pi = rest) : toGo t < toGo s ∧ Fed t := by
  have hmem := hfed.2 (by simp [State.runsOnPI, hs])
  rw [hpi] at hmem
  have hlt := stepsLeft_lt t
  refine ⟨?_, fun h => ?_, fun _ => htpi ▸ (List.mem_cons.mp hmem).resolve_left nofun⟩
  · simp only [toGo, itemsLeft, State.runsOnSI, State.runsOnPI, hs, ht, hpi, htpi, itemsToEnd, if_true, Bool.false_eq_true, if_false]
    omega
  · simp [State.runsOnSI, ht] at h

/-- Between two items the steps left decrease. -/
theorem progress_of_inside {s t : State} (hfed : Fed s) (hkind : t.runsOnSI = s.runsOnSI ∧ t.runsOnPI = s.runsOnPI)
    (hsi : t.si = s.si) (hpi : t.pi = s.pi) (hlt : stepsLeft t < stepsLeft s) : toGo t < toGo s ∧ Fed t := by
  refine ⟨?_, ?_⟩
  · simp only [toGo, itemsLeft, hkind, hsi, hpi]
    omega
  · simpa only [Fed, hkind, hsi, hpi] using hfed

/-- A move that does not end a command leaves `rst` low and stays with the command's stream (R167). -/
theorem Moves.keeps_kind {tab : Config.Table} {s t : State} (h : Moves tab s t) (hr : s.rst = false) (hb : s.st ≠ .idle)
    (ht : t.st ≠ .idle) : t.rst = false ∧ t.runsOnSI = s.runsOnSI ∧ t.runsOnPI = s.runsOnPI := by
  have same (hrst : t.rst = s.rst) (hst : t.st = s.st) (hcmd : t.cmd = s.cmd) :
      t.rst = false ∧ t.runsOnSI = s.runsOnSI ∧ t.runsOnPI = s.runsOnPI := ⟨hrst.trans hr, runsOn_eq hst hcmd⟩
  cases h with
  | reset hr' => rw [hr] at hr'; cases hr'
  | rests _ hs | nop _ hs | acceptsUnit _ _ hs | acceptsPass _ _ _ hs => exact absurd hs hb
  | raises | finishes | endsDecode | endsEncode => exact absurd rfl ht
  | waits | pops | probesUnit | startsRdnum | startsDecnum | startsWrnum => exact same rfl rfl rfl
  | probes _ _ _ _ hs | begins _ _ _ hs | emits _ hs | takes _ _ _ _ _ _ hs | updates _ hs =>
    exact ⟨hr, by simp [State.runsOnSI, hs], by simp [State.runsOnPI, hs]⟩
  | loads _ _ _ _ hs =>
    obtain ⟨hs, rfl⟩ | ⟨hs, rfl⟩ := hs <;> exact ⟨hr, by simp [State.runsOnSI, hs], by simp [State.runsOnPI, hs]⟩
  | applies _ hs =>
    obtain ⟨v, ⟨-, heq⟩ | ⟨-, heq⟩⟩ := applyLatches_cases s <;> rw [heq] <;>
      exact ⟨hr, by simp [State.runsOnSI, hs], by simp [State.runsOnPI, hs]⟩
  | shifts c rest i _ hs =>
    obtain ⟨-, heq⟩ | ⟨-, heq⟩ := afterShift_cases (fun t => { t with st := .dApply }) (shiftIn i (s.popSI rest)) <;> rw [heq] <;>
      exact ⟨hr, by simp [State.runsOnSI, hs], by simp [State.runsOnPI, hs]⟩
  | shiftsRead c rest i =>
    obtain ⟨-, heq⟩ | ⟨-, heq⟩ := afterShift_cases finishRdnum (shiftIn i (s.popSI rest)) <;> rw [heq] at ht ⊢
    · exact absurd rfl ht
    · exact ⟨hr, runsOn_eq rfl rfl⟩
  | shiftsExtra c rest i =>
    obtain ⟨-, heq⟩ | ⟨-, heq⟩ := afterShift_cases finishDecnum (shiftIn i (s.popSI rest)) <;> rw [heq] at ht ⊢
    · exact absurd rfl ht
    · exact ⟨hr, runsOn_eq rfl rfl⟩
  | pushesUnit n =>
    obtain ⟨-, heq⟩ | ⟨-, heq⟩ := afterPush_cases (fun t => (t.setResult (n.setWidth 64)).endCommand) (shiftOut tab s) <;>
      rw [heq] at ht ⊢
    · exact absurd rfl ht
    · exact ⟨hr, runsOn_eq rfl rfl⟩
  | pushes after _ hs =>
    obtain ⟨hs, rfl⟩ | ⟨hs, rfl⟩ := hs
    · obtain ⟨-, heq⟩ | ⟨-, heq⟩ := afterPush_cases (fun t => { t with st := .eNumY }) (shiftOut tab s) <;> rw [heq] <;>
        exact ⟨hr, by simp [State.runsOnSI, hs], by simp [State.runsOnPI, hs]⟩
    · obtain ⟨-, heq⟩ | ⟨-, heq⟩ := afterPush_cases (fun t => { t with st := .eUpd }) (shiftOut tab s) <;> rw [heq] <;>
        exact ⟨hr, by simp [State.runsOnSI, hs], by simp [State.runsOnPI, hs]⟩

/-- `OCNT` after a symbol that was not the last. -/
theorem shiftOut_ocnt_lt (tab : Config.Table) {s : State} (hpos : 1 ≤ s.ocnt.toNat) :
    (shiftOut tab s).ocnt.toNat < s.ocnt.toNat := by
  change (s.ocnt - 1#3).toNat < _
  bv_omega

/-- A move that neither waits nor ends the command brings it nearer to its end (R210). -/
theorem Moves.progress {tab : Config.Table} {s t : State} (h : Moves tab s t) (hphase : phaseOk s = true) (hr : s.rst = false)
    (hb : s.st ≠ .idle) (hfed : Fed s) (hw : s.waits = false) (ht : t.st ≠ .idle) : toGo t < toGo s ∧ Fed t := by
  obtain ⟨-, hkind⟩ := h.keeps_kind hr hb ht
  have pop {c : Char8} {rest : List (Item Char8)} (hs : Reading s) (hsi : s.si = .data c :: rest) (htsi : t.si = rest) :
      toGo t < toGo s ∧ Fed t :=
    progress_of_pop hfed hsi (hs.runsOnSI hphase) (hkind.1.trans (hs.runsOnSI hphase)) htsi
  have inside (hsi : t.si = s.si) (hpi : t.pi = s.pi) (hlt : stepsLeft t < stepsLeft s) : toGo t < toGo s ∧ Fed t :=
    progress_of_inside hfed hkind hsi hpi hlt
  cases h with
  | reset hr' => rw [hr] at hr'; cases hr'
  | rests _ hs | nop _ hs | acceptsUnit _ _ hs | acceptsPass _ _ _ hs => exact absurd hs hb
  | raises | finishes | endsDecode | endsEncode => exact absurd rfl ht
  | waits _ _ hw' => rw [hw] at hw'; cases hw'
  | pops c rest _ hs hsi => exact pop hs hsi rfl
  | probes c rest i _ hs hsi => exact pop (.inl hs) hsi rfl
  | probesUnit c rest i _ hs hu hsi => exact pop (.inr (.inr ⟨hs, .inr (.inl hu)⟩)) hsi rfl
  | shifts c rest i _ hs hsi =>
    refine pop (.inr (.inl hs)) hsi ?_
    obtain ⟨-, heq⟩ | ⟨-, heq⟩ := afterShift_cases (fun t => { t with st := .dApply }) (shiftIn i (s.popSI rest)) <;> rw [heq] <;> rfl
  | shiftsRead c rest i _ hs hu hsi =>
    refine pop (.inr (.inr ⟨hs, .inl hu⟩)) hsi ?_
    obtain ⟨-, heq⟩ | ⟨-, heq⟩ := afterShift_cases finishRdnum (shiftIn i (s.popSI rest)) <;> rw [heq] <;> rfl
  | shiftsExtra c rest i _ hs hu hsi =>
    refine pop (.inr (.inr ⟨hs, .inr (.inr hu)⟩)) hsi ?_
    obtain ⟨-, heq⟩ | ⟨-, heq⟩ := afterShift_cases finishDecnum (shiftIn i (s.popSI rest)) <;> rw [heq] <;> rfl
  | takes pt rest fx fy draws _ hs hpi => exact progress_of_take hfed hpi hs rfl rfl
  | startsRdnum _ hs hu | startsDecnum _ hs hu => exact inside rfl rfl (by simp [stepsLeft, hs, hu])
  | startsWrnum d a _ hs hu =>
    refine inside rfl rfl ?_
    have := (loadEncoder d a s).ocnt.isLt
    simp only [stepsLeft, hs, hu, loadEncoder_st] at this ⊢
    omega
  | begins _ _ _ hs | emits _ hs | updates _ hs => exact inside rfl rfl (by simp [stepsLeft, hs])
  | applies _ hs =>
    obtain ⟨v, ⟨-, heq⟩ | ⟨-, heq⟩⟩ := applyLatches_cases s <;> rw [heq] at hkind inside ⊢ <;>
      exact inside rfl rfl (by simp [stepsLeft, hs])
  | loads f a _ _ hs =>
    have := (loadEncoder (f - a) f s).ocnt.isLt
    obtain ⟨hs, rfl⟩ | ⟨hs, rfl⟩ := hs <;> refine inside rfl rfl ?_ <;> simp only [stepsLeft, hs] <;> omega
  | pushesUnit n _ hs hu =>
    have hlt := shiftOut_ocnt_lt tab ((phaseOk_shift hs hu).mp hphase).2
    obtain ⟨-, heq⟩ | ⟨-, heq⟩ := afterPush_cases (fun t => (t.setResult (n.setWidth 64)).endCommand) (shiftOut tab s) <;>
      rw [heq] at ht inside ⊢
    · exact absurd rfl ht
    · exact inside rfl rfl (by simpa only [stepsLeft, shiftOut_st, shiftOut_upos, hs, hu] using hlt)
  | pushes after _ hs =>
    have hlt := shiftOut_ocnt_lt tab ((phaseOk_push (hs.imp And.left And.left)).mp hphase).2
    obtain ⟨-, heq⟩ | ⟨-, heq⟩ := afterPush_cases (fun t => { t with st := after }) (shiftOut tab s) <;> rw [heq] at inside ⊢ <;>
      refine inside rfl rfl ?_ <;> obtain ⟨hs, rfl⟩ | ⟨hs, rfl⟩ := hs <;> simp [stepsLeft, hs] at hlt ⊢ <;> omega

/-! ## The end of every command on a fair run -/

/-- A move of the host that leaves `rst` alone keeps what a command has still to do (R214). -/
theorem HostChange.keeps_toGo {s t : State} (h : HostChange s t) (hfed : Fed s) : Fed t ∧ toGo t = toGo s := by
  obtain ⟨moreSI, hsi⟩ := h.si
  obtain ⟨morePI, hpi⟩ := h.pi
  obtain ⟨hkSI, hkPI⟩ := runsOn_eq h.st h.cmd
  have hsteps : stepsLeft t = stepsLeft s := by simp only [stepsLeft, h.st, h.upos, h.ocnt]
  have hitems : itemsLeft t = itemsLeft s := by
    simp only [itemsLeft, hkSI, hkPI, hsi, hpi]
    split
    next hk => exact itemsToEnd_append (hfed.1 hk) moreSI
    next =>
      split
      next hk => exact itemsToEnd_append (hfed.2 hk) morePI
      next => rfl
  refine ⟨⟨fun hk => ?_, fun hk => ?_⟩, by rw [toGo, toGo, hsteps, hitems]⟩
  · rw [hsi]; exact List.mem_append_left _ (hfed.1 (hkSI ▸ hk))
  · rw [hpi]; exact List.mem_append_left _ (hfed.2 (hkPI ▸ hk))

/-- With its input there, a command waits only for a sink (R211). -/
theorem sink_of_waits {s : State} (hphase : phaseOk s = true) (hfed : Fed s) (hw : s.waits = true) :
    (s.soValid = true ∧ s.soReady = false) ∨ (s.poValid = true ∧ s.poReady = false) := by
  obtain ⟨hs, hsi⟩ | ⟨hs, hpi⟩ | hso | ⟨hs, hready⟩ := (waits_iff s).mp hw
  · have hk : s.runsOnSI = true := hs.elim (fun hs => by simp [State.runsOnSI, hs]) fun hs => hs.runsOnSI hphase
    have hmem := hfed.1 hk
    rw [hsi] at hmem
    cases hmem
  · have hmem := hfed.2 (by simp [State.runsOnPI, hs])
    rw [hpi] at hmem
    cases hmem
  · exact .inl hso
  · exact .inr ⟨by simp [State.poValid, hs], hready⟩

/-- A block pushes to one sink at a time. -/
theorem poValid_of_soValid {s : State} (h : s.soValid = true) : s.poValid = false := by
  obtain hs | hs | ⟨hs, -⟩ := (soValid_iff s).mp h <;> simp [State.poValid, hs]

/-- A good state in which a command runs. -/
def Working (tab : Config.Table) (s : State) : Prop := InvOf tab s ∧ s.rst = false ∧ s.st ≠ .idle

/-- While a command runs every event keeps the state good, the command's stream, and, once its input is there, brings it nearer
to its end or leaves what it has still to do; a step that does not wait brings it nearer. -/
theorem working_succ {tab : Config.Table} (hadm : Config.Admissible tab) {r : Run} (hvalid : r.Valid tab) {k : Nat}
    (hk : Working tab (r.state k)) (hb : (r.state (k + 1)).st ≠ .idle) :
    Working tab (r.state (k + 1)) ∧
      ((r.state (k + 1)).runsOnSI = (r.state k).runsOnSI ∧ (r.state (k + 1)).runsOnPI = (r.state k).runsOnPI) ∧
      (Fed (r.state k) → Fed (r.state (k + 1)) ∧ toGo (r.state (k + 1)) ≤ toGo (r.state k) ∧
        (r.event k = .fsm → (r.state k).waits = false → toGo (r.state (k + 1)) < toGo (r.state k))) := by
  obtain ⟨hinv, hrst, hst⟩ := hk
  have hevent := hvalid k
  cases he : r.event k with
  | fsm =>
    rw [he] at hevent
    have hmoves := stepOf_moves hinv.2.1 hevent
    obtain ⟨hrst', hkind⟩ := hmoves.keeps_kind hrst hst hb
    refine ⟨⟨stepOf_keeps_invariant hadm hinv hevent, hrst', hb⟩, hkind, fun hfed => ?_⟩
    cases hw : (r.state k).waits with
    | true =>
      have heq : r.state k = r.state (k + 1) := by
        have hstays := stepOf_waits (tab := tab) hrst hinv.2.1 hw
        rw [hevent] at hstays
        injection hstays with heq
        exact heq.symm
      rw [← heq]
      exact ⟨hfed, le_rfl, fun _ => nofun⟩
    | false =>
      obtain ⟨hlt, hfed'⟩ := hmoves.progress hinv.2.1 hrst hst hfed hw hb
      exact ⟨hfed', hlt.le, fun _ _ => hlt⟩
  | host m =>
    rw [he] at hevent
    obtain ⟨-, heq⟩ | ⟨-, hchange⟩ := hostMove_cases hevent
    · rw [heq] at hb; exact absurd rfl hb
    · refine ⟨⟨hostMove_keeps_invariant tab m _ _ hinv hevent, hchange.rst hrst, hb⟩, runsOn_eq hchange.st hchange.cmd,
        fun hfed => ?_⟩
      obtain ⟨hfed', heq⟩ := hchange.keeps_toGo hfed
      exact ⟨hfed', heq.le, nofun⟩

/-- Until its end a command keeps its state good and its stream. -/
theorem working_until {tab : Config.Table} (hadm : Config.Admissible tab) {r : Run} (hvalid : r.Valid tab) {n m : Nat} (hnm : n ≤ m)
    (hn : Working tab (r.state n)) (hb : ∀ k, n < k → k ≤ m → (r.state k).st ≠ .idle) :
    Working tab (r.state m) ∧ (r.state m).runsOnSI = (r.state n).runsOnSI ∧ (r.state m).runsOnPI = (r.state n).runsOnPI := by
  induction m, hnm using Nat.le_induction with
  | base => exact ⟨hn, rfl, rfl⟩
  | succ m hnm ih =>
    obtain ⟨hm, hSI, hPI⟩ := ih fun k hk hkm => hb k hk (by omega)
    obtain ⟨hm', ⟨hSI', hPI'⟩, -⟩ := working_succ hadm hvalid hm (hb (m + 1) (by omega) le_rfl)
    exact ⟨hm', hSI'.trans hSI, hPI'.trans hPI⟩

section Endless

variable {tab : Config.Table} {r : Run} {n : Nat}

/-- Once its input is there it stays there, and what is still to do does not grow. -/
theorem fed_until (hadm : Config.Admissible tab) (hvalid : r.Valid tab) (hwork : ∀ k, n ≤ k → Working tab (r.state k)) {m k : Nat}
    (hnm : n ≤ m) (hmk : m ≤ k) (hfed : Fed (r.state m)) : Fed (r.state k) ∧ toGo (r.state k) ≤ toGo (r.state m) := by
  induction k, hmk using Nat.le_induction with
  | base => exact ⟨hfed, le_rfl⟩
  | succ k hmk ih =>
    obtain ⟨hfedk, hle⟩ := ih
    obtain ⟨-, -, hnext⟩ := working_succ hadm hvalid (hwork k (by omega)) (hwork (k + 1) (by omega)).2.2
    obtain ⟨hfed', hle', -⟩ := hnext hfedk
    exact ⟨hfed', hle'.trans hle⟩

/-- The host feeds a command that runs for ever (R212). -/
theorem fed_eventually (hadm : Config.Admissible tab) (hvalid : r.Valid tab) (hfair : r.HostFair)
    (hwork : ∀ k, n ≤ k → Working tab (r.state k)) : ∃ m, n ≤ m ∧ Fed (r.state m) := by
  have kind (m : Nat) (hnm : n ≤ m) := (working_until hadm hvalid hnm (hwork n le_rfl) fun k hk _ => (hwork k hk.le).2.2).2
  cases hSI : (r.state n).runsOnSI with
  | true =>
    obtain ⟨m, hnm, hend⟩ := hfair.endOfText n hSI
    have hSIm := (kind m hnm).1.trans hSI
    refine ⟨m, hnm, fun _ => hend.resolve_right (by simp [hSIm]), fun hPI => ?_⟩
    rw [runsOnPI_of_runsOnSI hSIm] at hPI
    cases hPI
  | false =>
    cases hPI : (r.state n).runsOnPI with
    | true =>
      obtain ⟨m, hnm, hend⟩ := hfair.endOfPoints n hPI
      have hPIm := (kind m hnm).2.trans hPI
      refine ⟨m, hnm, fun h => ?_, fun _ => hend.resolve_right (by simp [hPIm])⟩
      rw [(kind m hnm).1, hSI] at h
      cases h
    | false => exact ⟨n, le_rfl, by simp [hSI], by simp [hPI]⟩

/-- The next step of the FSM. -/
theorem exists_first_fsm (hfsm : r.FsmFair) (m : Nat) : ∃ k, m ≤ k ∧ r.event k = .fsm ∧ ∀ j, m ≤ j → j < k → r.event j ≠ .fsm := by
  classical
  refine ⟨Nat.find (hfsm m), (Nat.find_spec (hfsm m)).1, (Nat.find_spec (hfsm m)).2, fun j hmj hj he => ?_⟩
  exact Nat.find_min (hfsm m) hj ⟨hmj, he⟩

/-- Where every step of the FSM waits, its state does not move. -/
theorem stays_while_waiting (hvalid : r.Valid tab) (hwork : ∀ k, n ≤ k → Working tab (r.state k))
    (hwaits : ∀ k, n ≤ k → r.event k = .fsm → (r.state k).waits = true) {k : Nat} (hk : n ≤ k) :
    (r.state k).st = (r.state n).st ∧ (r.state k).upos = (r.state n).upos := by
  induction k, hk using Nat.le_induction with
  | base => exact ⟨rfl, rfl⟩
  | succ k hk ih =>
    suffices h : (r.state (k + 1)).st = (r.state k).st ∧ (r.state (k + 1)).upos = (r.state k).upos from
      ⟨h.1.trans ih.1, h.2.trans ih.2⟩
    obtain ⟨hinv, hrst, -⟩ := hwork k hk
    have hevent := hvalid k
    cases he : r.event k with
    | fsm =>
      rw [he] at hevent
      have hstays := stepOf_waits (tab := tab) hrst hinv.2.1 (hwaits k hk he)
      rw [hevent] at hstays
      injection hstays with heq
      rw [heq]
      exact ⟨rfl, rfl⟩
    | host m =>
      rw [he] at hevent
      obtain ⟨-, heq⟩ | ⟨-, hchange⟩ := hostMove_cases hevent
      · exact absurd (by rw [heq]; rfl) (hwork (k + 1) (by omega)).2.2
      · exact ⟨hchange.st, hchange.upos⟩

/-- A sink that comes to be ready and stays so until the next step ends the wait. -/
theorem not_always_waiting (hfsm : r.FsmFair) {valid ready : State → Bool} {f : Nat}
    (hvalid : ∀ k, f ≤ k → valid (r.state k) = true)
    (hsink : ∀ k, f ≤ k → r.event k = .fsm → ready (r.state k) = false)
    (hheld : r.HeldForAStep f fun s => ready s = true ∨ valid s = false) : False := by
  obtain ⟨m, hfm, hheld⟩ := hheld
  obtain ⟨k, hmk, hek, hfirst⟩ := exists_first_fsm hfsm m
  obtain hready | hnot := hheld k hmk hfirst
  · rw [hsink k (hfm.trans hmk) hek] at hready; cases hready
  · rw [hvalid k (hfm.trans hmk)] at hnot; cases hnot

/-- With its input there a running command takes a step that does not wait. -/
theorem exists_fsm_not_waiting (hadm : Config.Admissible tab) (hvalid : r.Valid tab) (hfsm : r.FsmFair) (hfair : r.HostFair)
    (hwork : ∀ k, n ≤ k → Working tab (r.state k)) (hfed : Fed (r.state n)) :
    ∃ f, n ≤ f ∧ r.event f = .fsm ∧ (r.state f).waits = false := by
  by_contra hno
  have hwaits (k : Nat) (hk : n ≤ k) (he : r.event k = .fsm) : (r.state k).waits = true := by
    cases hw : (r.state k).waits with
    | true => rfl
    | false => exact absurd ⟨k, hk, he, hw⟩ hno
  have sink (k : Nat) (hk : n ≤ k) (he : r.event k = .fsm) :=
    sink_of_waits (hwork k hk).1.2.1 (fed_until hadm hvalid hwork le_rfl hk hfed).1 (hwaits k hk he)
  have soValid_eq (k : Nat) (hk : n ≤ k) : (r.state k).soValid = (r.state n).soValid := by
    obtain ⟨hst, hupos⟩ := stays_while_waiting hvalid hwork hwaits hk
    simp only [State.soValid, hst, hupos]
  have poValid_eq (k : Nat) (hk : n ≤ k) : (r.state k).poValid = (r.state n).poValid := by
    simp only [State.poValid, (stays_while_waiting hvalid hwork hwaits hk).1]
  obtain ⟨f, hnf, hef, -⟩ := exists_first_fsm hfsm n
  obtain ⟨hv, -⟩ | ⟨hv, -⟩ := sink f hnf hef
  · have hvn : (r.state n).soValid = true := soValid_eq f hnf ▸ hv
    refine not_always_waiting hfsm (fun k hk => (soValid_eq k hk).trans hvn) (fun k hk he => ?_) (hfair.acceptsCharacters n hvn)
    obtain ⟨-, hready⟩ | ⟨hpo, -⟩ := sink k hk he
    · exact hready
    · rw [poValid_of_soValid ((soValid_eq k hk).trans hvn)] at hpo; cases hpo
  · have hvn : (r.state n).poValid = true := poValid_eq f hnf ▸ hv
    refine not_always_waiting hfsm (fun k hk => (poValid_eq k hk).trans hvn) (fun k hk he => ?_) (hfair.acceptsPoints n hvn)
    obtain ⟨hso, -⟩ | ⟨-, hready⟩ := sink k hk he
    · have hpo := (poValid_eq k hk).trans hvn
      rw [poValid_of_soValid hso] at hpo; cases hpo
    · exact hready

/-- No command runs for ever on a fair run: what it has still to do would become smaller for ever. -/
theorem not_working_forever (hadm : Config.Admissible tab) (hvalid : r.Valid tab) (hfsm : r.FsmFair) (hfair : r.HostFair)
    (hwork : ∀ k, n ≤ k → Working tab (r.state k)) : False := by
  have descent (N : Nat) : ∀ m, n ≤ m → toGo (r.state m) = N → ¬ Fed (r.state m) := by
    induction N using Nat.strong_induction_on with
    | _ N ih =>
      intro m hnm hN hfed
      obtain ⟨f, hmf, hef, hw⟩ := exists_fsm_not_waiting hadm hvalid hfsm hfair (fun k hk => hwork k (hnm.trans hk)) hfed
      obtain ⟨hfedf, hle⟩ := fed_until hadm hvalid hwork hnm hmf hfed
      obtain ⟨-, -, hnext⟩ := working_succ hadm hvalid (hwork f (hnm.trans hmf)) (hwork (f + 1) (by omega)).2.2
      obtain ⟨hfed', -, hlt⟩ := hnext hfedf
      exact ih _ (by have := hlt hef hw; omega) (f + 1) (by omega) rfl hfed'
  obtain ⟨m, hnm, hfed⟩ := fed_eventually hadm hvalid hfair hwork
  exact descent _ m hnm rfl hfed

end Endless

/-- A command that is not interrupted ends with `DONE` (R147, R181). -/
theorem done_of_ends {tab : Config.Table} {r : Run} (hvalid : r.Valid tab) {k : Nat} (hk : Working tab (r.state k))
    (hidle : (r.state (k + 1)).st = .idle) (he : r.event k ≠ .host .assertReset) : (r.state (k + 1)).doneFlag = true := by
  obtain ⟨hinv, hrst, hst⟩ := hk
  have hevent := hvalid k
  cases hek : r.event k with
  | fsm =>
    rw [hek] at hevent
    obtain ⟨hne, -⟩ | ⟨-, hdone, -⟩ | ⟨heq, -⟩ := (stepOf_moves hinv.2.1 hevent).busy_cases hrst hst
    · exact absurd hidle hne
    · exact hdone
    · rw [heq]; rfl
  | host m =>
    rw [hek] at hevent
    obtain ⟨rfl, -⟩ | ⟨-, hchange⟩ := hostMove_cases hevent
    · exact absurd hek he
    · exact absurd (hchange.st.symm.trans hidle) hst

/-- Every command ends on a fair run (R210, R212). -/
theorem command_ends {tab : Config.Table} (hadm : Config.Admissible tab) {r : Run} (hvalid : r.Valid tab) (hfsm : r.FsmFair)
    (hfair : r.HostFair) {n : Nat} (hn : Working tab (r.state n)) :
    ∃ k, n ≤ k ∧ Working tab (r.state k) ∧ (r.state (k + 1)).st = .idle := by
  classical
  have hends : ∃ m, n < m ∧ (r.state m).st = .idle := by
    by_contra hno
    refine not_working_forever hadm hvalid hfsm hfair fun k hk => (working_until hadm hvalid hk hn fun j hj _ hidle => ?_).1
    exact hno ⟨j, hj, hidle⟩
  obtain ⟨hnm, hidle⟩ := Nat.find_spec hends
  obtain ⟨k, hm⟩ : ∃ k, Nat.find hends = k + 1 := Nat.exists_eq_add_one_of_ne_zero (by omega)
  rw [hm] at hnm hidle
  refine ⟨k, by omega, (working_until hadm hvalid (by omega) hn fun j hj hjk hj' => ?_).1, hidle⟩
  exact Nat.find_min hends (hm ▸ Nat.lt_succ_of_le hjk) ⟨hj, hj'⟩

end Machine

open Machine Safety

/-- Settles O56, by the measure `toGo` of what a command has still to do. -/
theorem noStepIsRefused : Obligations.NoStepIsRefused := by
  refine ⟨fun s hinv hport => ?_, fun s hinv hr hb => ?_, fun tab r n hadm hvalid hfsm hfair hinv hr hb => ?_⟩
  · rw [step_eq_stepOf]; exact stepOf_next _ hinv.2.1 hport
  · rw [step_eq_stepOf]; exact stepOf_eq_self_iff hr hinv.2.1 hb
  · obtain ⟨k, hnk, hk, hidle⟩ := command_ends hadm hvalid hfsm hfair ⟨hinv, hr, (busy_iff _).mp hb⟩
    refine ⟨k + 1, by omega, by simp [State.busy, hidle], fun hno => ?_⟩
    exact done_of_ends hvalid hk hidle (hno k hnk (by omega))

end Sys2Proof
end

section
/-! PROOF. The steps of the readers, the writers and the passes do what their whole definitions on a stream do
(spec/41_number_decoder.md R80, R83; spec/42_number_encoder.md R100; spec/45_sequence_fsm.md R150, R160, R172). -/

namespace Sys2Proof

namespace Machine

open Sys2Proof.Safety

/-! ## Steps in a row -/

/-- Steps of the FSM lead from `s` to `t`. -/
def Leads (tab : Config.Table) (s t : State) : Prop := ∃ k, RunsToOf tab k s t

theorem Leads.refl (tab : Config.Table) (s : State) : Leads tab s s := ⟨0, rfl⟩

/-- One step, and then more. -/
theorem Leads.head {tab : Config.Table} {s t u : State} (h : stepOf tab s = .next t) (htu : Leads tab t u) : Leads tab s u := by
  obtain ⟨k, hk⟩ := htu
  exact ⟨k + 1, by rw [RunsToOf, runOf, h]; exact hk⟩

theorem Leads.of_step {tab : Config.Table} {s t : State} (h : stepOf tab s = .next t) : Leads tab s t := .head h (.refl tab t)

theorem Leads.trans {tab : Config.Table} {s t u : State} (hst : Leads tab s t) (htu : Leads tab t u) : Leads tab s u := by
  obtain ⟨k, hk⟩ := hst
  induction k generalizing s with
  | zero => cases hk; exact htu
  | succ k ih =>
    rw [RunsToOf, runOf] at hk
    split at hk
    next v hv => exact .head hv (ih hk)
    all_goals cases hk

/-! ## A read -/

/-- A state in which symbols are shifted into `NUM`, and `fin`, what follows the last of them: `D_EXTRA` (R153), RDNUM (R80) or
the second read of DECNUM (R83). -/
inductive Shifting (s : State) : (State → State) → Prop where
  | decode (hs : s.st = .dExtra) : Shifting s fun t => { t with st := .dApply }
  | rdnum (n : BitVec 3) (hs : s.st = .unit) (hu : s.upos = .read) (hd : decodeCommand s.cmd = .ok (.rdnum n)) : Shifting s finishRdnum
  | decnum (hs : s.st = .unit) (hu : s.upos = .extra) (hd : decodeCommand s.cmd = .ok .decnum) : Shifting s finishDecnum

/-- The latches and the stream do not decide whether a state reads. -/
theorem Shifting.with_latches {s : State} {fin : State → State} (h : Shifting s fin) (num : Word32) (cnt : BitVec 3) (cur : Nat)
    (items : List (Item Char8)) : Shifting { s with num := num, cnt := cnt, cur := cur, si := items } fin := by
  cases h with
  | decode hs => exact .decode hs
  | rdnum n hs hu hd => exact .rdnum n hs hu hd
  | decnum hs hu hd => exact .decnum hs hu hd

theorem Shifting.reading {s : State} {fin : State → State} (h : Shifting s fin) : Reading s := by
  cases h with
  | decode hs => exact .inr (.inl hs)
  | rdnum n hs hu => exact .inr (.inr ⟨hs, .inl hu⟩)
  | decnum hs hu => exact .inr (.inr ⟨hs, .inr (.inr hu)⟩)

/-- A step there is a turn of the reader. -/
theorem Shifting.stepOf_eq {tab : Config.Table} {s : State} {fin : State → State} (h : Shifting s fin) (hr : s.rst = false) :
    stepOf tab s = readStep tab s := by
  cases h with
  | decode hs => exact stepOf_reading hr (.inr hs)
  | rdnum n hs hu hd =>
    rw [stepOf_unitRun hr hs hd ((decodeCommand_kinds hd).resolve_right (by simp))]
    exact runRdnum_reads tab n (by simp [hu])
  | decnum hs hu hd => rw [stepOf_unitRun hr hs hd rfl]; exact runDecnum_reads tab (by simp [hu])

theorem Shifting.consumeSymbol_eq {s : State} {fin : State → State} (h : Shifting s fin) (i : Index) {c : Char8}
    {rest : List (Item Char8)} (hsi : s.si = .data c :: rest) :
    consumeSymbol i s = .next (afterShift fin (shiftIn i (s.popSI rest))) := by
  cases h with
  | decode hs => exact consumeSymbol_dExtra hsi hs
  | rdnum n hs hu => exact consumeSymbol_read hsi hs hu
  | decnum hs hu => exact consumeSymbol_extra hsi hs hu

/-- What BufferExhausted leaves, with the rest of SI given (R181). -/
def raisedWith (rest : List (Item Char8)) (s : State) : State :=
  { s with err := .bufferExhausted, doneFlag := true, si := rest, st := .idle, upos := .entry }

/-- The steps from `s` do what the read says, where `s` has `b` for its cursor before the read's pops. -/
def ReadMeets (tab : Config.Table) (fin : State → State) (s : State) (b : Nat) : ReadEnd → Prop
  | .value num pops rest => Leads tab s (fin { s with num := num, cnt := 0, cur := b + pops, si := rest })
  | .exhausted pops rest => ∃ num cnt, Leads tab s (raisedWith rest { s with num := num, cnt := cnt, cur := b + pops })
  | .starved => True

/-- Only the read's registers differ between the states a read goes through. -/
theorem ReadMeets.head {tab : Config.Table} {fin : State → State} {s : State} {b : Nat} {num : Word32} {cnt : BitVec 3} {cur : Nat}
    {items : List (Item Char8)} {e : ReadEnd}
    (h : stepOf tab s = .next { s with num := num, cnt := cnt, cur := cur, si := items })
    (hmeets : ReadMeets tab fin { s with num := num, cnt := cnt, cur := cur, si := items } b e) : ReadMeets tab fin s b e := by
  cases e with
  | value num pops rest => exact Leads.head h hmeets
  | exhausted pops rest =>
    obtain ⟨num, cnt, hleads⟩ := hmeets
    exact ⟨num, cnt, .head h hleads⟩
  | starved => trivial

/-- The steps of a read do what its loop does on SI (R80, R172). -/
theorem Shifting.meets {tab : Config.Table} {fin : State → State} (items : List (Item Char8)) {s : State} {b pops : Nat}
    (h : Shifting s fin) (hr : s.rst = false) (hsi : s.si = items) (hcur : s.cur = b + pops) (hcnt : s.cnt ≠ 0#3) :
    ReadMeets tab fin s b (rdnumLoop tab s.cnt.toNat s.num pops items) := by
  induction items generalizing s pops with
  | nil =>
    obtain ⟨n, hn⟩ : ∃ n, s.cnt.toNat = n + 1 := Nat.exists_eq_add_one_of_ne_zero fun h0 => hcnt (BitVec.eq_of_toNat_eq h0)
    rw [hn]
    trivial
  | cons it rest ih =>
    obtain ⟨n, hn⟩ : ∃ n, s.cnt.toNat = n + 1 := Nat.exists_eq_add_one_of_ne_zero fun h0 => hcnt (BitVec.eq_of_toNat_eq h0)
    have hstep := h.stepOf_eq (tab := tab) hr
    cases it with
    | endTok =>
      rw [readStep_end hsi, raiseBufferExhausted_end hsi] at hstep
      rw [hn]
      refine ⟨s.num, s.cnt, .of_step ?_⟩
      rw [hstep, ← hcur]
      rfl
    | data c =>
      cases hc : revOf tab c with
      | none =>
        rw [readStep_pops h.reading hsi hc] at hstep
        rw [rdnumLoop_filler s.num pops rest (by omega) hc]
        exact ReadMeets.head (num := s.num) (cnt := s.cnt) hstep
          (ih (h.with_latches _ _ _ _) hr rfl (by simp only [hcur, Nat.add_assoc]) hcnt)
      | some i =>
        rw [readStep_symbol hsi hc, h.consumeSymbol_eq i hsi] at hstep
        rw [hn, rdnumLoop, hc]
        by_cases h1 : s.cnt = 1#3
        · rw [afterShift_shiftIn_last fin i rest h1] at hstep
          obtain rfl : n = 0 := by rw [h1] at hn; simpa using hn.symm
          dsimp only
          rw [rdnumLoop_zero]
          exact Leads.of_step (by rw [hstep, hcur]; rfl)
        · rw [afterShift_shiftIn_more fin i rest h1] at hstep
          have hn' : (s.cnt - 1#3).toNat = n := by bv_omega
          have hmeets := ih (pops := pops + 1) (h.with_latches (s.num <<< 6 ||| i.setWidth 32) (s.cnt - 1#3) (s.cur + 1) rest) hr rfl
            (by simp only [hcur, Nat.add_assoc]) (cnt_pred_ne_zero h1)
          rw [hn'] at hmeets
          exact ReadMeets.head hstep hmeets

/-! ## A number -/

/-- A state in which the probe of a number is read, where that leads, and what follows the number's last symbol: `D_PROBE` (R152)
or DECNUM (R83). -/
inductive Probing (s : State) : (State → State) → (State → State) → Prop where
  | decode (hs : s.st = .dProbe) : Probing s (fun t => { t with st := .dExtra }) fun t => { t with st := .dApply }
  | decnum (hs : s.st = .unit) (hu : s.upos = .probe) (hd : decodeCommand s.cmd = .ok .decnum) :
      Probing s (fun t => { t with upos := .extra }) finishDecnum

section Probe

variable {s : State} {probed fin : State → State}

theorem Probing.with_input (h : Probing s probed fin) (cur : Nat) (items : List (Item Char8)) :
    Probing { s with cur := cur, si := items } probed fin := by
  cases h with
  | decode hs => exact .decode hs
  | decnum hs hu hd => exact .decnum hs hu hd

/-- With the probe latched the other symbols are shifted in. -/
theorem Probing.shifting (h : Probing s probed fin) (i : Index) (cur : Nat) (items : List (Item Char8)) :
    Shifting (probed (latchProbe i { s with cur := cur, si := items })) fin := by
  cases h with
  | decode hs => exact .decode rfl
  | decnum hs hu hd => exact .decnum hs rfl hd

theorem Probing.reading (h : Probing s probed fin) : Reading s := by
  cases h with
  | decode hs => exact .inl hs
  | decnum hs hu => exact .inr (.inr ⟨hs, .inr (.inl hu)⟩)

/-- A step there is a turn of the reader. -/
theorem Probing.stepOf_eq (tab : Config.Table) (h : Probing s probed fin) (hr : s.rst = false) : stepOf tab s = readStep tab s := by
  cases h with
  | decode hs => exact stepOf_reading hr (.inl hs)
  | decnum hs hu hd => rw [stepOf_unitRun hr hs hd rfl]; exact runDecnum_reads tab (by simp [hu])

theorem Probing.consumeSymbol_eq (h : Probing s probed fin) (i : Index) {c : Char8} {rest : List (Item Char8)}
    (hsi : s.si = .data c :: rest) : consumeSymbol i s = .next (probed (latchProbe i (s.popSI rest))) := by
  cases h with
  | decode hs => exact consumeSymbol_dProbe hsi hs
  | decnum hs hu => exact consumeSymbol_probe hsi hs hu

/-- The steps from `s` do what the read of the probe says. -/
def ProbeMeets (tab : Config.Table) (probed : State → State) (s : State) (b : Nat) : ReadEnd → Prop
  | .value num pops rest => Leads tab s (probed (latchProbe (num.setWidth 6) { s with cur := b + pops, si := rest }))
  | .exhausted pops rest => Leads tab s (raisedWith rest { s with cur := b + pops })
  | .starved => True

theorem ProbeMeets.head {tab : Config.Table} {b cur : Nat} {items : List (Item Char8)} {e : ReadEnd}
    (h : stepOf tab s = .next { s with cur := cur, si := items })
    (hmeets : ProbeMeets tab probed { s with cur := cur, si := items } b e) : ProbeMeets tab probed s b e := by
  cases e with
  | value num pops rest => exact Leads.head h hmeets
  | exhausted pops rest => exact Leads.head h hmeets
  | starved => trivial

/-- The steps of the probe's read do what its loop does on SI (R83, R152). -/
theorem Probing.meets (tab : Config.Table) (items : List (Item Char8)) {s : State} {b pops : Nat} (h : Probing s probed fin)
    (hr : s.rst = false) (hsi : s.si = items) (hcur : s.cur = b + pops) :
    ProbeMeets tab probed s b (rdnumLoop tab 1 0 pops items) := by
  induction items generalizing s pops with
  | nil => trivial
  | cons it rest ih =>
    have hstep := h.stepOf_eq tab hr
    cases it with
    | endTok =>
      rw [readStep_end hsi, raiseBufferExhausted_end hsi] at hstep
      show Leads tab s _
      exact .of_step (by rw [hstep, ← hcur]; rfl)
    | data c =>
      cases hc : revOf tab c with
      | none =>
        rw [readStep_pops h.reading hsi hc] at hstep
        rw [rdnumLoop_filler 0 pops rest Nat.one_pos hc]
        exact ProbeMeets.head hstep (ih (h.with_input _ _) hr rfl (by simp only [hcur, Nat.add_assoc]))
      | some i =>
        rw [readStep_symbol hsi hc, h.consumeSymbol_eq i hsi] at hstep
        rw [rdnumLoop, hc]
        dsimp only
        rw [rdnumLoop_zero]
        have hprobe : (((0 : Word32) <<< 6) ||| i.setWidth 32).setWidth 6 = i := probe_setWidth i
        rw [ProbeMeets, hprobe]
        exact .of_step (by rw [hstep, State.popSI, hcur]; rfl)

section Probed

variable (h : Probing s probed fin) (i : Index) (cur : Nat) (items : List (Item Char8))
include h

theorem Probing.probed_rst : (probed (latchProbe i { s with cur := cur, si := items })).rst = s.rst := by cases h <;> rfl

theorem Probing.probed_si : (probed (latchProbe i { s with cur := cur, si := items })).si = items := by cases h <;> rfl

theorem Probing.probed_cur : (probed (latchProbe i { s with cur := cur, si := items })).cur = cur := by cases h <;> rfl

theorem Probing.probed_num : (probed (latchProbe i { s with cur := cur, si := items })).num = 0 := by cases h <;> rfl

theorem Probing.probed_cnt :
    (probed (latchProbe i { s with cur := cur, si := items })).cnt = BitVec.ofNat 3 (tierOf i).extra := by cases h <;> rfl

theorem Probing.probed_latched (num : Word32) (cnt : BitVec 3) (cur' : Nat) (items' : List (Item Char8)) :
    { probed (latchProbe i { s with cur := cur, si := items }) with num := num, cnt := cnt, cur := cur', si := items' } =
      { probed s with p := i, tier := tierOf i, num := num, cnt := cnt, cur := cur', si := items' } := by cases h <;> rfl

/-- The exception leaves nothing of the place it was raised at. -/
theorem Probing.raised_probed (rest : List (Item Char8)) (num : Word32) (cnt : BitVec 3) (cur' : Nat) :
    raisedWith rest { probed (latchProbe i { s with cur := cur, si := items }) with num := num, cnt := cnt, cur := cur' } =
      raisedWith rest { s with p := i, tier := tierOf i, num := num, cnt := cnt, cur := cur' } := by cases h <;> rfl

end Probed

/-- `CNT` holds what the tier asks for, which is not 0 (R82). -/
theorem extra_ofNat (t : Tier) : (BitVec.ofNat 3 t.extra).toNat = t.extra ∧ BitVec.ofNat 3 t.extra ≠ 0#3 := by
  cases t <;> decide

/-- The steps from `s` do what DECNUM says, and the latches hold the number at its end. -/
def NumberMeets (tab : Config.Table) (probed fin : State → State) (s : State) : NumberEnd → Prop
  | .value t v pops rest => ∃ p num, v = payloadOf t p num ∧
      Leads tab s (fin { probed s with p := p, tier := t, num := num, cnt := 0, cur := s.cur + pops, si := rest })
  | .exhausted pops rest => ∃ p t num cnt,
      Leads tab s (raisedWith rest { s with p := p, tier := t, num := num, cnt := cnt, cur := s.cur + pops })
  | .starved => True

/-- The steps of a number do what DECNUM does on SI (R83, R172). -/
theorem Probing.number_meets (tab : Config.Table) (h : Probing s probed fin) (hr : s.rst = false) :
    NumberMeets tab probed fin s (decnumOn tab s.si) := by
  have hprobe := h.meets tab s.si hr rfl (b := s.cur) (pops := 0) rfl
  rw [decnumOn]
  cases hread : rdnumLoop tab 1 0 0 s.si with
  | starved => trivial
  | exhausted pops rest =>
    rw [hread] at hprobe
    exact ⟨s.p, s.tier, s.num, s.cnt, hprobe⟩
  | value num pops rest =>
    rw [hread] at hprobe
    have hcnt := extra_ofNat (tierOf (num.setWidth 6))
    have hmeets := (h.shifting (num.setWidth 6) (s.cur + pops) rest).meets (tab := tab) (b := s.cur) (pops := pops) rest
      ((h.probed_rst _ _ _).trans hr) (h.probed_si _ _ _) (h.probed_cur _ _ _) (by rw [h.probed_cnt]; exact hcnt.2)
    rw [h.probed_cnt, hcnt.1, h.probed_num] at hmeets
    dsimp only
    revert hmeets
    cases rdnumLoop tab (tierOf (num.setWidth 6)).extra 0 pops rest with
    | starved => exact fun _ => trivial
    | exhausted pops' rest' =>
      rintro ⟨num', cnt', hleads⟩
      rw [h.raised_probed] at hleads
      exact ⟨_, _, num', cnt', hprobe.trans hleads⟩
    | value num' pops' rest' =>
      intro hleads
      have hleads : Leads tab _ _ := hleads
      rw [h.probed_latched] at hleads
      exact ⟨_, num', rfl, hprobe.trans hleads⟩

end Probe

/-! ## RDNUM and DECNUM in `UNIT` -/

/-- RDNUM's steps do what its loop does on SI (R80). -/
theorem rdnum_meets (tab : Config.Table) {s : State} {n : BitVec 3} (hr : s.rst = false) (hs : s.st = .unit) (hu : s.upos = .entry)
    (hd : decodeCommand s.cmd = .ok (.rdnum n)) :
    ReadMeets tab finishRdnum s s.cur (rdnumLoop tab n.toNat 0 0 s.si) := by
  have hstep : stepOf tab s = runRdnum tab n s := stepOf_unitRun hr hs hd ((decodeCommand_kinds hd).resolve_right (by simp))
  by_cases hn : n = 0#3
  · subst hn
    rw [runRdnum_zero tab hu] at hstep
    change ReadMeets tab _ _ _ (rdnumLoop tab 0 0 0 s.si)
    rw [rdnumLoop_zero]
    exact Leads.of_step hstep
  · rw [runRdnum_entry tab hu hn] at hstep
    have hmeets := (Shifting.rdnum (s := { s with num := 0, cnt := n, upos := .read }) n hs rfl hd).meets (tab := tab) s.si
      (b := s.cur) (pops := 0) hr rfl rfl hn
    change ReadMeets tab _ _ _ (rdnumLoop tab n.toNat 0 0 s.si) at hmeets
    revert hmeets
    cases rdnumLoop tab n.toNat 0 0 s.si with
    | value num pops rest => exact Leads.head hstep
    | exhausted pops rest => exact fun ⟨num, cnt, hleads⟩ => ⟨num, cnt, .head hstep hleads⟩
    | starved => exact id

/-- DECNUM's steps do what its whole definition does on SI (R83). -/
theorem decnum_meets (tab : Config.Table) {s : State} (hr : s.rst = false) (hs : s.st = .unit) (hu : s.upos = .entry)
    (hd : decodeCommand s.cmd = .ok .decnum) :
    NumberMeets tab (fun t => { t with upos := .extra }) finishDecnum s (decnumOn tab s.si) := by
  have hstep : stepOf tab s = runDecnum tab s := stepOf_unitRun hr hs hd rfl
  rw [runDecnum_entry tab hu] at hstep
  have hmeets := (Probing.decnum (s := { s with num := 0, cnt := 1, upos := .probe }) hs rfl hd).number_meets tab hr
  change NumberMeets tab _ _ _ (decnumOn tab s.si) at hmeets
  revert hmeets
  cases decnumOn tab s.si with
  | value t v pops rest => exact fun ⟨p, num, hv, hleads⟩ => ⟨p, num, hv, .head hstep hleads⟩
  | exhausted pops rest => exact fun ⟨p, t, num, cnt, hleads⟩ => ⟨p, t, num, cnt, .head hstep hleads⟩
  | starved => exact id

/-! ## An emission -/

/-- A state in which symbols are pushed from `OSR`, and `fin`, what follows the last of them: `E_SHX`, `E_SHY` (R163, R164) or
WRNUM (R100). -/
inductive Pushing (s : State) : (State → State) → Prop where
  | encodeX (hs : s.st = .eShX) : Pushing s fun t => { t with st := .eNumY }
  | encodeY (hs : s.st = .eShY) : Pushing s fun t => { t with st := .eUpd }
  | wrnum (d a : Word32) (hs : s.st = .unit) (hu : s.upos = .shift) (hd : decodeCommand s.cmd = .ok (.wrnum d a)) :
      Pushing s fun t => (t.setResult ((encoderCount d).setWidth 64)).endCommand

/-- What is pushed does not decide where. -/
theorem Pushing.with_latches {s : State} {fin : State → State} (h : Pushing s fin) (so : List Char8) (osr : BitVec 30)
    (ocnt : BitVec 3) : Pushing { s with so := so, osr := osr, ocnt := ocnt } fin := by
  cases h with
  | encodeX hs => exact .encodeX hs
  | encodeY hs => exact .encodeY hs
  | wrnum d a hs hu hd => exact .wrnum d a hs hu hd

/-- With the sink ready a step there pushes. -/
theorem Pushing.stepOf_eq (tab : Config.Table) {s : State} {fin : State → State} (h : Pushing s fin) (hr : s.rst = false)
    (hready : s.soReady = true) : stepOf tab s = .next (afterPush fin (shiftOut tab s)) := by
  cases h with
  | encodeX hs => rw [stepOf_eShX hr hs, encodeShift_ready tab _ hready]
  | encodeY hs => rw [stepOf_eShY hr hs, encodeShift_ready tab _ hready]
  | wrnum d a hs hu hd =>
    rw [stepOf_unitRun hr hs hd rfl]
    exact (runWrnum_pushes tab d a (by simp [hu])).trans (pushLoop_ready tab _ hready)

/-- With the sink ready the steps of an emission push its symbols (R100, R163). -/
theorem Pushing.pushes (tab : Config.Table) {fin : State → State} (n : Nat) {s : State} (h : Pushing s fin) (hr : s.rst = false)
    (hready : s.soReady = true) (hn : s.ocnt.toNat = n + 1) :
    Leads tab s (fin { s with so := s.so ++ emit tab (n + 1) s.osr, osr := s.osr <<< (6 * (n + 1)), ocnt := 0 }) := by
  induction n generalizing s with
  | zero =>
    have h1 : s.ocnt = 1#3 := BitVec.eq_of_toNat_eq hn
    have hstep := h.stepOf_eq tab hr hready
    rw [afterPush_shiftOut_last tab fin h1] at hstep
    exact .of_step hstep
  | succ n ih =>
    have h1 : s.ocnt ≠ 1#3 := by rintro h1; rw [h1] at hn; simp at hn
    have hpred : (s.ocnt - 1#3).toNat = n + 1 := by bv_omega
    have hstep := h.stepOf_eq tab hr hready
    rw [afterPush_shiftOut_more tab fin h1] at hstep
    refine .head hstep ?_
    have hrest := ih (h.with_latches (s.so ++ [romOf tab (s.osr.extractLsb' 24 6)]) (s.osr <<< 6) (s.ocnt - 1#3)) hr hready hpred
    have hshift : s.osr <<< 6 <<< (6 * (n + 1)) = s.osr <<< (6 * (n + 1 + 1)) := by
      rw [← BitVec.shiftLeft_add]; congr 1; omega
    rw [hshift, List.append_assoc] at hrest
    exact hrest

/-- All symbols of a word are shifted out (R104). -/
theorem encoderWord_shifted (d a : Word32) : encoderWord d a <<< (6 * (encoderCount d).toNat) = 0#30 := by
  rw [encoderCount_toNat, encoderWord]
  cases tierOfDelta d <;> simp only [Tier.extra]
  · rw [← BitVec.shiftLeft_add]; exact BitVec.shiftLeft_eq_zero (by decide)
  · rw [← BitVec.shiftLeft_add]; exact BitVec.shiftLeft_eq_zero (by decide)
  · exact BitVec.shiftLeft_eq_zero (by decide)

/-- With the sink ready the steps from a loaded encoder push the characters of its number (R100, R163). -/
theorem Pushing.pushes_number (tab : Config.Table) {fin : State → State} {s : State} (d a : Word32)
    (h : Pushing (loadEncoder d a s) fin) (hr : s.rst = false) (hready : s.soReady = true) :
    Leads tab (loadEncoder d a s) (fin { s with so := s.so ++ wrnumText tab d a, osr := 0, ocnt := 0 }) := by
  obtain ⟨n, hn⟩ : ∃ n, (encoderCount d).toNat = n + 1 :=
    Nat.exists_eq_add_one_of_ne_zero (by have := (encoderCount_bounds d).1; omega)
  have hpushes := h.pushes tab n hr hready hn
  rw [← hn] at hpushes
  change Leads tab _ (fin { s with so := _, osr := encoderWord d a <<< (6 * (encoderCount d).toNat), ocnt := 0 }) at hpushes
  rw [encoderWord_shifted] at hpushes
  exact hpushes

end Machine

open Machine

/-- Settles O28, by induction on the items of SI. -/
theorem rdnumStepsMeetItsDefinition : Obligations.RdnumStepsMeetItsDefinition := by
  intro tab s n hr hs hu hd
  have hmeets := rdnum_meets tab hr hs hu hd
  refine ⟨fun num pops rest hread => ?_, fun pops rest hread => ?_⟩
  · rw [hread] at hmeets
    exact hmeets
  · rw [hread] at hmeets
    obtain ⟨num, cnt, k, hk⟩ := hmeets
    exact ⟨k, _, hk, rfl⟩

/-- Settles O29, by the reads of the probe and of the other symbols. -/
theorem decnumStepsMeetItsDefinition : Obligations.DecnumStepsMeetItsDefinition := by
  intro tab s hr hs hu hd
  have hmeets := decnum_meets tab hr hs hu hd
  refine ⟨fun t v pops rest hread => ?_, fun pops rest hread => ?_⟩
  · rw [hread] at hmeets
    obtain ⟨p, num, rfl, k, hk⟩ := hmeets
    rw [finishDecnum_eq] at hk
    exact ⟨k, _, hk, rfl⟩
  · rw [hread] at hmeets
    obtain ⟨p, t, num, cnt, k, hk⟩ := hmeets
    exact ⟨k, _, hk, rfl⟩

/-- Settles O30, by induction on the symbols to push. -/
theorem wrnumStepsMeetItsDefinition : Obligations.WrnumStepsMeetItsDefinition := by
  intro tab s d a hr hs hu hready hd
  have hstep : stepOf tab s = runWrnum tab d a s := stepOf_unitRun hr hs hd rfl
  rw [runWrnum_entry tab d a hu] at hstep
  exact Leads.head hstep (Pushing.pushes_number tab (s := { s with upos := .shift }) d a (.wrnum d a hs rfl hd) hr hready)

end Sys2Proof
end

section
/-! PROOF. The steps of an accepted DECODE and of an accepted ENCODE do what the whole-pass forms do on the stream
(spec/45_sequence_fsm.md R150, R160, R172). -/

namespace Sys2Proof

namespace Machine

open Sys2Proof.Safety

/-! ## DECODE -/

/-- `s` holds what the pass `r`, begun in `s₀`, has made so far. -/
structure DecodeHolds (s₀ : State) (r : DecodePass) (s : State) : Prop where
  ax : s.ax = r.ax
  ay : s.ay = r.ay
  axis : s.axis = r.axis
  cur : s.cur = r.cur
  po : s.po = s₀.po ++ r.points
  so : s.so = s₀.so
  pi : s.pi = s₀.pi
  res : s.res = s₀.res
  resv : s.resv = false
  port : s.port = none

/-- A pass at a number boundary. -/
structure DecodeAt (s₀ : State) (r : DecodePass) (s : State) : Prop extends DecodeHolds s₀ r s where
  st : s.st = .dNext
  rst : s.rst = false
  poReady : s.poReady = true
  err : s.err = .none

/-- The steps from `s` do what the pass says. -/
def DecodeMeets (tab : Config.Table) (s₀ s : State) : DecodeEnd → Prop
  | .ok r rest => ∃ t, Leads tab s t ∧ DecodeHolds s₀ r t ∧ t.si = rest ∧ t.st = .idle ∧ t.doneFlag = true ∧ t.err = .none
  | .exhausted r rest =>
    ∃ t, Leads tab s t ∧ DecodeHolds s₀ r t ∧ t.si = rest ∧ t.st = .idle ∧ t.doneFlag = true ∧ t.err = .bufferExhausted
  | .starved => True

theorem DecodeMeets.head {tab : Config.Table} {s₀ s u : State} {e : DecodeEnd} (hsu : Leads tab s u) (h : DecodeMeets tab s₀ u e) :
    DecodeMeets tab s₀ s e := by
  cases e with
  | ok r rest => obtain ⟨t, ht, h⟩ := h; exact ⟨t, hsu.trans ht, h⟩
  | exhausted r rest => obtain ⟨t, ht, h⟩ := h; exact ⟨t, hsu.trans ht, h⟩
  | starved => trivial

/-- `D_APPLY` puts the value the latches stand for into the axis's accumulator (R154). -/
theorem applyLatches_eq (s : State) :
    applyLatches s = afterApply (s.setAcc s.axis
      (if s.tier = .full then payloadOf s.tier s.p s.num else s.acc s.axis + payloadOf s.tier s.p s.num)) := by
  rw [applyLatches]
  cases s.tier <;> rfl

theorem afterApply_x {s : State} (h : s.axis = .x) (v : Word32) :
    afterApply (s.setAcc .x v) = { s with ax := v, axis := .y, st := .dNext } := by
  rw [afterApply, State.setAcc_axis, h]; rfl

theorem afterApply_y {s : State} (h : s.axis = .y) (v : Word32) : afterApply (s.setAcc .y v) = { s with ay := v, st := .dEmit } := by
  rw [afterApply, State.setAcc_axis, h]; rfl

/-- From `D_APPLY` the steps do to the pass what one number does (R150, R154, R155). -/
theorem DecodeHolds.apply (tab : Config.Table) {s₀ s : State} {r : DecodePass} (h : DecodeHolds s₀ r s) (hs : s.st = .dApply)
    (hr : s.rst = false) (hready : s.poReady = true) (herr : s.err = .none) :
    ∃ t, Leads tab s t ∧ DecodeAt s₀ (r.apply s.tier (payloadOf s.tier s.p s.num)) t ∧ t.si = s.si := by
  have hstep : stepOf tab s = .next (applyLatches s) := (stepOf_dApply hr hs).trans (execOf_formOf tab hs)
  have hacc : s.acc s.axis = r.acc r.axis := by
    rw [h.axis]; cases r.axis <;> simp only [State.acc, DecodePass.acc, h.ax, h.ay]
  rw [applyLatches_eq, hacc] at hstep
  rw [DecodePass.apply]
  generalize (if s.tier = .full then payloadOf s.tier s.p s.num else r.acc r.axis + payloadOf s.tier s.p s.num) = v at hstep ⊢
  cases hra : r.axis with
  | x =>
    have hx : s.axis = .x := h.axis.trans hra
    rw [hx, afterApply_x hx] at hstep
    exact ⟨_, .of_step hstep, ⟨{ h with ax := rfl, axis := rfl }, rfl, hr, hready, herr⟩, rfl⟩
  | y =>
    have hy : s.axis = .y := h.axis.trans hra
    rw [hy, afterApply_y hy] at hstep
    have hemit := (stepOf_dEmit (tab := tab) (s := { s with ay := v, st := .dEmit }) hr rfl).trans (decodeEmit_ready hready)
    refine ⟨_, .head hstep (.of_step hemit), ⟨{ h with ay := rfl, axis := rfl, po := ?_ }, rfl, hr, hready, herr⟩, rfl⟩
    change s.po ++ [_] = _
    rw [h.po, h.ax, List.append_assoc]

/-- From a number boundary the steps do what the rest of the pass says (R150, R172). -/
theorem DecodeAt.meets (tab : Config.Table) {s₀ : State} (items : List (Item Char8)) {s : State} {r : DecodePass} (h : DecodeAt s₀ r s)
    (hsi : s.si = items) : DecodeMeets tab s₀ s (r.run tab items) := by
  induction hlen : items.length using Nat.strong_induction_on generalizing items s r with
  | _ len ih =>
    have hnext := stepOf_dNext (tab := tab) h.rst h.st
    match items with
    | [] => trivial
    | .endTok :: rest =>
      rw [decodeNext, hsi] at hnext
      rw [DecodePass.run_end]
      exact ⟨_, .of_step hnext, { h.toDecodeHolds with }, rfl, rfl, rfl, h.err⟩
    | .data c :: more =>
      rw [decodeNext, hsi] at hnext
      have hmeets := (Probing.decode (s := { s with num := 0, cnt := 1, st := .dProbe }) rfl).number_meets tab h.rst
      change NumberMeets tab _ _ _ (decnumOn tab s.si) at hmeets
      rw [hsi] at hmeets
      rw [DecodePass.run_data]
      cases hnum : decnumOn tab (.data c :: more) with
      | starved => trivial
      | exhausted pops rest =>
        rw [hnum] at hmeets
        obtain ⟨p, t, num, cnt, hleads⟩ := hmeets
        exact ⟨_, .head hnext hleads, { h.toDecodeHolds with cur := congrArg (· + pops) h.cur }, rfl, rfl, rfl, rfl⟩
      | value t v pops rest =>
        rw [hnum] at hmeets
        obtain ⟨p, num, rfl, hleads⟩ := hmeets
        have hholds : DecodeHolds s₀ { r with cur := r.cur + pops }
            { s with p := p, tier := t, num := num, cnt := 0, cur := s.cur + pops, si := rest, st := .dApply } :=
          { h.toDecodeHolds with cur := congrArg (· + pops) h.cur }
        obtain ⟨u, hu, hat, husi⟩ := hholds.apply tab rfl h.rst h.poReady h.err
        exact .head (.head hnext (hleads.trans hu)) (ih _ (hlen ▸ decnumOn_value_length hnum) rest hat husi rfl)

/-- An accepted DECODE stands at its first number boundary (R143, R146). -/
theorem accepted_decodeAt {s : State} (c : Command) (hr : s.rst = false) (hready : s.poReady = true) :
    DecodeAt s .start (passStart (acceptAs .dNext c s)) where
  ax := rfl
  ay := rfl
  axis := rfl
  cur := rfl
  po := (List.append_nil _).symm
  so := rfl
  pi := rfl
  res := rfl
  resv := rfl
  port := rfl
  st := rfl
  rst := hr
  poReady := hready
  err := rfl

/-! ## ENCODE -/

/-- `s` holds what the pass `r`, begun in `s₀`, has made so far. -/
structure EncodeHolds (s₀ : State) (r : EncodePass) (s : State) : Prop where
  ax : s.ax = r.ax
  ay : s.ay = r.ay
  axis : s.axis = .x
  cur : s.cur = r.cur
  draws : s.draws = r.draws
  so : s.so = s₀.so ++ r.chars
  po : s.po = s₀.po
  si : s.si = s₀.si
  res : s.res = s₀.res
  resv : s.resv = false
  port : s.port = none
  err : s.err = .none

/-- A pass at a point boundary. -/
structure EncodeAt (s₀ : State) (r : EncodePass) (s : State) : Prop extends EncodeHolds s₀ r s where
  st : s.st = .eNext
  rst : s.rst = false
  soReady : s.soReady = true

/-- A transform inside ENCODE draws as the whole-pass form does (R116, log 4). -/
theorem fixedOr_eq (o : Option Word32) (s : State) :
    fixedOr o s = ((drawFixed o s.draws).1, { s with draws := (drawFixed o s.draws).2 }) := by
  cases o <;> rfl

/-- The step of `E_NEXT` at a point (R161). -/
theorem encodeNext_point {s : State} {pt : Point} {rest : List (Item Point)} (hpi : s.pi = .data pt :: rest) :
    encodeNext s = .next { s with
      pi := rest, cur := s.cur + 1, st := .eNumX,
      fx := (drawFixed (toFixedX pt.x) s.draws).1,
      fy := (drawFixed (toFixedY pt.y) (drawFixed (toFixedX pt.x) s.draws).2).1,
      draws := (drawFixed (toFixedY pt.y) (drawFixed (toFixedX pt.x) s.draws).2).2 } := by
  rw [encodeNext, hpi]
  simp only [fixedOr_eq]
  rfl

/-- With the sink ready the steps from `E_NUMX` push both numbers, update the accumulators and stand at `E_NEXT` (R162 to R165). -/
theorem leads_eNext (tab : Config.Table) {s : State} (hs : s.st = .eNumX) (hr : s.rst = false) (hready : s.soReady = true) :
    Leads tab s { s with
      so := s.so ++ wrnumText tab (s.fx - s.ax) s.fx ++ wrnumText tab (s.fy - s.ay) s.fy,
      ax := s.fx, ay := s.fy, osr := 0, ocnt := 0, st := .eNext } := by
  refine .head (stepOf_eNumX hr hs) ?_
  refine .trans (Pushing.pushes_number tab (s := { s with st := .eShX }) (s.fx - s.ax) s.fx (.encodeX rfl) hr hready) ?_
  refine .head (stepOf_eNumY hr rfl) ?_
  refine .trans (Pushing.pushes_number tab
    (s := { s with so := s.so ++ wrnumText tab (s.fx - s.ax) s.fx, osr := 0, ocnt := 0, st := .eShY }) (s.fy - s.ay) s.fy
    (.encodeY rfl) hr hready) ?_
  exact .of_step (stepOf_eUpd hr rfl)

/-- The steps of one point do to the pass what the whole-pass form does (R160). -/
theorem EncodeAt.point (tab : Config.Table) {s₀ s : State} {r : EncodePass} (h : EncodeAt s₀ r s) {pt : Point}
    {rest : List (Item Point)} (hpi : s.pi = .data pt :: rest) :
    ∃ t, Leads tab s t ∧ EncodeAt s₀ (r.point tab pt) t ∧ t.pi = rest := by
  have hstep : stepOf tab s = _ := (stepOf_eNext h.rst h.st).trans (encodeNext_point hpi)
  refine ⟨_, .head hstep (leads_eNext tab rfl h.rst h.soReady),
    { h with ax := ?_, ay := ?_, cur := congrArg (· + 1) h.cur, draws := ?_, so := ?_, st := rfl }, rfl⟩
  all_goals simp only [EncodePass.point, h.draws, h.so, h.ax, h.ay, List.append_assoc]

/-- From a point boundary the steps do what the rest of the pass says (R160, R172). -/
theorem EncodeAt.meets (tab : Config.Table) {s₀ : State} (items : List (Item Point)) {s : State} {r r' : EncodePass}
    {rest : List (Item Point)} (h : EncodeAt s₀ r s) (hpi : s.pi = items) (hloop : encodeLoop tab r items = .ok r' rest) :
    ∃ t, Leads tab s t ∧ EncodeHolds s₀ r' t ∧ t.pi = rest ∧ t.st = .idle ∧ t.doneFlag = true := by
  induction items generalizing s r with
  | nil => cases hloop
  | cons it items ih =>
    cases it with
    | endTok =>
      cases hloop
      have hnext := stepOf_eNext (tab := tab) h.rst h.st
      rw [encodeNext, hpi] at hnext
      exact ⟨_, .of_step hnext, { h.toEncodeHolds with }, rfl, rfl, rfl⟩
    | data pt =>
      obtain ⟨u, hu, hat, hupi⟩ := h.point tab hpi
      obtain ⟨t, ht, hends⟩ := ih hat hupi hloop
      exact ⟨t, hu.trans ht, hends⟩

/-- An accepted ENCODE stands at its first point boundary (R143, R146). -/
theorem accepted_encodeAt {s : State} (c : Command) (hr : s.rst = false) (hready : s.soReady = true) :
    EncodeAt s ⟨0, 0, 0, s.draws, []⟩ (passStart (acceptAs .eNext c s)) where
  ax := rfl
  ay := rfl
  axis := rfl
  cur := rfl
  draws := rfl
  so := (List.append_nil _).symm
  po := rfl
  si := rfl
  res := rfl
  resv := rfl
  port := rfl
  err := rfl
  st := rfl
  rst := hr
  soReady := hready

end Machine

open Machine

/-- Settles O44, by induction on the length of SI. -/
theorem decodeStepsMeetTheWholePass : Obligations.DecodeStepsMeetTheWholePass := by
  intro tab s c hr hs hp hop hready
  have hstep : stepOf tab s = .next (passStart (acceptAs .dNext c s)) := by
    rw [stepOf_idle hr hs hp (decodeCommand_op14 hop), execOf, execDecodeOf, hs]
    exact acceptPass_some .dNext hp
  have hmeets := (accepted_decodeAt c hr hready).meets tab s.si rfl
  rw [decodePass_eq_run]
  refine ⟨fun r rest hrun => ?_, fun r rest hrun => ?_⟩
  all_goals
    rw [hrun] at hmeets
    obtain ⟨t, ht, ⟨hax, hay, haxis, hcur, hpo, hso, hpi, hres, hresv, hport⟩, hsi, hidle, hdone, herr⟩ := hmeets
    obtain ⟨k, hk⟩ := Leads.head hstep ht
    exact ⟨k, t, hk, hidle, hdone, herr, hax, hay, haxis, hcur, hpo, hsi, hso, hpi, hres, hresv, hport⟩

/-- Settles O45, by induction on the items of PI. -/
theorem encodeStepsMeetTheWholePass : Obligations.EncodeStepsMeetTheWholePass := by
  intro tab s c hr hs hp hop hready r rest hpass
  have hstep : stepOf tab s = .next (passStart (acceptAs .eNext c s)) := by
    rw [stepOf_idle hr hs hp (decodeCommand_op15 hop), execOf, execEncodeOf, hs]
    exact acceptPass_some .eNext hp
  obtain ⟨t, ht, ⟨hax, hay, haxis, hcur, hdraws, hso, hpo, hsi, hres, hresv, hport, herr⟩, hpi, hidle, hdone⟩ :=
    (accepted_encodeAt c hr hready).meets tab s.pi rfl hpass
  obtain ⟨k, hk⟩ := Leads.head hstep ht
  exact ⟨k, t, hk, hidle, hdone, herr, hax, hay, haxis, hcur, hso, hpi, hpo, hsi, hdraws, hres, hresv, hport⟩

end Sys2Proof
end

section
/-! PROOF. What binary64 rounding does (spec/00_scope.md R7, spec/43_coordinate_transform.md R110 to R112): the exponent of the unit
in the last place, the nearest quotient, and the number they give, as facts about the exact value, a rational number. -/

namespace Sys2Proof

namespace Machine

/-! ## Scaled naturals and the floor of a logarithm -/

/-- The exact value `n / d * 2^k`. -/
def exactValue (n d : Nat) (k : Int) : ℚ := n / d * 2 ^ k

theorem scaleUp_cast (n : Nat) (k : Int) : (scaleUp n k : ℚ) = n * 2 ^ (k.toNat : Int) := by
  rw [scaleUp, zpow_natCast]
  push_cast
  rfl

theorem scaleUp_pos {d : Nat} (hd : 0 < d) (k : Int) : 0 < scaleUp d k := Nat.mul_pos hd (Nat.two_pow_pos _)

/-- The quotient of the two scaled naturals is the exact value. -/
theorem scaleUp_eq_exactValue_mul (n : Nat) {d : Nat} (hd : 0 < d) (k : Int) :
    (scaleUp n k : ℚ) = exactValue n d k * scaleUp d (-k) := by
  have hdq : (d : ℚ) ≠ 0 := by exact_mod_cast hd.ne'
  have hpow : (2 : ℚ) ^ (k.toNat : Int) = 2 ^ k * 2 ^ ((-k).toNat : Int) := by
    rw [← zpow_add₀ (by norm_num)]; congr 1; omega
  rw [scaleUp_cast, scaleUp_cast, exactValue, hpow]
  field_simp

theorem exactValue_pos {n d : Nat} (hn : 0 < n) (hd : 0 < d) (k : Int) : 0 < exactValue n d k := by
  rw [exactValue]; positivity

theorem exactValue_add (n d : Nat) (j k : Int) : exactValue n d (j + k) = exactValue n d j * 2 ^ k := by
  rw [exactValue, exactValue, zpow_add₀ (by norm_num), mul_assoc]

/-- A power of two is at most the exact value where the scaled naturals say so. -/
theorem scaleUp_le_iff {n d : Nat} (hd : 0 < d) (k : Int) : scaleUp d k ≤ scaleUp n (-k) ↔ (2 : ℚ) ^ k ≤ exactValue n d 0 := by
  have hpos : (0 : ℚ) < scaleUp d k := by exact_mod_cast scaleUp_pos hd k
  have hscaled := scaleUp_eq_exactValue_mul n hd (-k)
  have hsplit : exactValue n d 0 = exactValue n d (-k) * 2 ^ k := by rw [← exactValue_add, neg_add_cancel]
  have hpow : (0 : ℚ) < 2 ^ k := by positivity
  rw [neg_neg] at hscaled
  rw [← Nat.cast_le (α := ℚ), hscaled, hsplit]
  constructor <;> intro h <;> nlinarith

/-- The quotient of two numbers lies between the powers of two next to the quotient of theirs. -/
theorem quotient_between {x n d : ℚ} {a b : Int} (hd : 0 < d) (hx : x * d = n) (nlow : 2 ^ a ≤ n) (nhigh : n < 2 ^ (a + 1))
    (dlow : 2 ^ b ≤ d) (dhigh : d < 2 ^ (b + 1)) : 2 ^ (a - b - 1) < x ∧ x < 2 ^ (a - b + 1) := by
  have hn : (0 : ℚ) < n := lt_of_lt_of_le (by positivity) nlow
  have hx0 : 0 < x := pos_of_mul_pos_left (hx ▸ hn) hd.le
  constructor
  · refine lt_of_mul_lt_mul_right ?_ hd.le
    calc (2 : ℚ) ^ (a - b - 1) * d < 2 ^ (a - b - 1) * 2 ^ (b + 1) := mul_lt_mul_of_pos_left dhigh (by positivity)
      _ = 2 ^ a := by rw [← zpow_add₀ (by norm_num)]; congr 1; omega
      _ ≤ x * d := hx ▸ nlow
  · refine lt_of_mul_lt_mul_right ?_ (show (0 : ℚ) ≤ 2 ^ b by positivity)
    calc x * 2 ^ b ≤ x * d := mul_le_mul_of_nonneg_left dlow hx0.le
      _ < 2 ^ (a + 1) := hx ▸ nhigh
      _ = 2 ^ (a - b + 1) * 2 ^ b := by rw [← zpow_add₀ (by norm_num)]; congr 1; omega

theorem log2_bounds {n : Nat} (hn : 0 < n) : (2 : ℚ) ^ (Nat.log2 n : Int) ≤ n ∧ (n : ℚ) < 2 ^ ((Nat.log2 n : Int) + 1) := by
  have hlow := Nat.log2_self_le hn.ne'
  have hhigh := Nat.lt_log2_self (n := n)
  rw [← Nat.cast_succ, zpow_natCast, zpow_natCast]
  exact ⟨by exact_mod_cast hlow, by exact_mod_cast hhigh⟩

/-- `floorLog2` is the floor of the logarithm. -/
theorem floorLog2_spec {n d : Nat} (hn : 0 < n) (hd : 0 < d) :
    (2 : ℚ) ^ floorLog2 n d ≤ exactValue n d 0 ∧ exactValue n d 0 < 2 ^ (floorLog2 n d + 1) := by
  have hdq : (0 : ℚ) < d := by exact_mod_cast hd
  have hvalue : exactValue n d 0 * d = n := by rw [exactValue, zpow_zero]; field_simp
  obtain ⟨nlow, nhigh⟩ := log2_bounds hn
  obtain ⟨dlow, dhigh⟩ := log2_bounds hd
  obtain ⟨hlow, hhigh⟩ := quotient_between hdq hvalue nlow nhigh dlow dhigh
  rw [floorLog2]
  split
  next h => exact ⟨(scaleUp_le_iff hd _).mp h, hhigh⟩
  next h => exact ⟨hlow.le, by rw [sub_add_cancel]; exact not_le.mp fun hle => h ((scaleUp_le_iff hd _).mpr hle)⟩

/-! ## The nearest quotient -/

/-- The rounded quotient is a nearest one, the even one of two (R7). -/
theorem divNearestEven_spec (n : Nat) {d : Nat} (hd : 0 < d) :
    2 * divNearestEven n d * d ≤ 2 * n + d ∧ 2 * n ≤ 2 * divNearestEven n d * d + d ∧
      (2 * divNearestEven n d * d = 2 * n + d ∨ 2 * n = 2 * divNearestEven n d * d + d → divNearestEven n d % 2 = 0) := by
  have hdiv := Nat.div_add_mod n d
  have hmod := Nat.mod_lt n hd
  rw [divNearestEven]
  generalize n / d = q at *
  generalize n % d = r at *
  subst hdiv
  split
  next h =>
    have hexpand : 2 * (q + 1) * d = 2 * (d * q) + 2 * d := by ring
    rw [hexpand]
    refine ⟨by omega, by omega, fun htie => ?_⟩
    obtain h | ⟨-, hodd⟩ := h <;> omega
  next h =>
    have hexpand : 2 * q * d = 2 * (d * q) := by ring
    rw [hexpand]
    exact ⟨by omega, by omega, fun htie => by omega⟩

/-- The quotient of a multiple is exact. -/
theorem divNearestEven_mul (m : Nat) {d : Nat} (hd : 0 < d) : divNearestEven (m * d) d = m := by
  simp [divNearestEven, Nat.mul_div_cancel m hd, hd.ne]

/-! ## Rounding -/

/-- The exponent of the unit in the last place (R7). -/
def unitExponent (n d : Nat) (e : Int) : Int := max (floorLog2 n d + e - 52) (-1074)

/-- The significand before a carry (R7). -/
def significand (n d : Nat) (e : Int) : Nat :=
  divNearestEven (scaleUp n (e - unitExponent n d e)) (scaleUp d (unitExponent n d e - e))

/-- Rounding by its two results: a carry out of the significand, or none (R7). -/
theorem roundTo64_eq (neg : Bool) {n : Nat} (d : Nat) (e : Int) (hn : 0 < n) : roundTo64 neg n d e =
    if significand n d e = 2 ^ 53 then
      if 971 < unitExponent n d e + 1 then .inf neg else .fin neg (2 ^ 52) (unitExponent n d e + 1)
    else if 971 < unitExponent n d e then .inf neg else .fin neg (significand n d e) (unitExponent n d e) := by
  rw [roundTo64, if_neg hn.ne']
  change (let mq : Nat × Int :=
      if significand n d e = 2 ^ 53 then (2 ^ 52, unitExponent n d e + 1) else (significand n d e, unitExponent n d e)
    if 971 < mq.2 then F64.inf neg else .fin neg mq.1 mq.2) = _
  by_cases h : significand n d e = 2 ^ 53
  · simp only [h, if_true]
  · simp only [h, if_false]

/-- In units of the last place the exact value is below `2^53`, and at least `2^52` unless the unit is the smallest one. -/
theorem exactValue_units {n d : Nat} (e : Int) (hn : 0 < n) (hd : 0 < d) :
    exactValue n d (e - unitExponent n d e) < 2 ^ 53 ∧
      (unitExponent n d e = -1074 ∨ 2 ^ 52 ≤ exactValue n d (e - unitExponent n d e)) := by
  obtain ⟨hlow, hhigh⟩ := floorLog2_spec hn hd
  have hunits : exactValue n d (e - unitExponent n d e) = exactValue n d 0 * 2 ^ (e - unitExponent n d e) := by
    rw [← exactValue_add, zero_add]
  have hpow : (0 : ℚ) < 2 ^ (e - unitExponent n d e) := by positivity
  rw [hunits]
  constructor
  · calc exactValue n d 0 * 2 ^ (e - unitExponent n d e)
        < 2 ^ (floorLog2 n d + 1) * 2 ^ (e - unitExponent n d e) := mul_lt_mul_of_pos_right hhigh hpow
      _ = 2 ^ (floorLog2 n d + 1 + (e - unitExponent n d e)) := by rw [← zpow_add₀ (by norm_num)]
      _ ≤ 2 ^ (53 : Int) := zpow_le_zpow_right₀ (by norm_num) (by rw [unitExponent]; omega)
      _ = 2 ^ 53 := by norm_num
  · by_cases hq : unitExponent n d e = -1074
    · exact .inl hq
    · refine .inr ?_
      calc (2 : ℚ) ^ 52 = 2 ^ (52 : Int) := by norm_num
        _ ≤ 2 ^ (floorLog2 n d + (e - unitExponent n d e)) :=
          zpow_le_zpow_right₀ (by norm_num) (by rw [unitExponent] at hq ⊢; omega)
        _ = 2 ^ floorLog2 n d * 2 ^ (e - unitExponent n d e) := by rw [← zpow_add₀ (by norm_num)]
        _ ≤ _ := mul_le_mul_of_nonneg_right hlow hpow.le

/-- Comparisons of the scaled naturals are comparisons of the exact value. -/
theorem scaled_le_iff (n : Nat) {d : Nat} (hd : 0 < d) {k k' : Int} (hk : k' = -k) (a b c : Nat) :
    a * scaleUp d k' ≤ b * scaleUp n k + c * scaleUp d k' ↔ (a : ℚ) ≤ b * exactValue n d k + c := by
  subst hk
  have hpos : (0 : ℚ) < scaleUp d (-k) := by exact_mod_cast scaleUp_pos hd (-k)
  rw [← Nat.cast_le (α := ℚ)]
  push_cast
  rw [scaleUp_eq_exactValue_mul n hd k, ← mul_assoc, ← add_mul]
  exact mul_le_mul_iff_left₀ hpos

theorem scaled_lt_iff (n : Nat) {d : Nat} (hd : 0 < d) {k k' : Int} (hk : k' = -k) (c : Nat) :
    scaleUp n k < c * scaleUp d k' ↔ exactValue n d k < c := by
  subst hk
  have hpos : (0 : ℚ) < scaleUp d (-k) := by exact_mod_cast scaleUp_pos hd (-k)
  rw [← Nat.cast_lt (α := ℚ)]
  push_cast
  rw [scaleUp_eq_exactValue_mul n hd k]
  exact mul_lt_mul_iff_left₀ hpos

section Rounding

variable {n d : Nat} (e : Int) (hn : 0 < n) (hd : 0 < d)
include hn hd

/-- The significand has at most 53 bits before a carry, and 53 unless the unit is the smallest one. -/
theorem significand_bounds : significand n d e ≤ 2 ^ 53 ∧ (unitExponent n d e = -1074 ∨ 2 ^ 52 ≤ significand n d e) := by
  obtain ⟨hhigh, hlow⟩ := exactValue_units e hn hd
  have hD := scaleUp_pos hd (unitExponent n d e - e)
  obtain ⟨hbelow, habove, -⟩ := divNearestEven_spec (scaleUp n (e - unitExponent n d e)) hD
  change 2 * significand n d e * _ ≤ _ at hbelow
  change _ ≤ 2 * significand n d e * _ + _ at habove
  have hlt := (scaled_lt_iff n hd (k := e - unitExponent n d e) (k' := unitExponent n d e - e) (neg_sub _ _).symm (2 ^ 53)).mpr
    (by exact_mod_cast hhigh)
  refine ⟨?_, hlow.imp_right fun hlow => ?_⟩
  · have : 2 * significand n d e < 2 * 2 ^ 53 + 1 := by
      refine Nat.lt_of_mul_lt_mul_right (a := scaleUp d (unitExponent n d e - e)) ?_
      linarith
    omega
  · have hle := (scaled_le_iff n hd (k := e - unitExponent n d e) (k' := unitExponent n d e - e) (neg_sub _ _).symm (2 ^ 52) 1 0).mpr
      (by push_cast; linarith)
    have : 2 * 2 ^ 52 < 2 * significand n d e + 2 := by
      refine Nat.lt_of_mul_lt_mul_right (a := scaleUp d (unitExponent n d e - e)) ?_
      linarith
    omega

omit hn in
/-- With a carry the exact value is within half a unit below `2^53` units. -/
theorem carry_value (hcarry : significand n d e = 2 ^ 53) : (2 : ℚ) * 2 ^ 53 ≤ 2 * exactValue n d (e - unitExponent n d e) + 1 := by
  have hD := scaleUp_pos hd (unitExponent n d e - e)
  obtain ⟨hbelow, -, -⟩ := divNearestEven_spec (scaleUp n (e - unitExponent n d e)) hD
  change 2 * significand n d e * _ ≤ _ at hbelow
  rw [hcarry] at hbelow
  have h := (scaled_le_iff n hd (k := e - unitExponent n d e) (k' := unitExponent n d e - e) (neg_sub _ _).symm (2 * 2 ^ 53) 2 1).mp
    (by rwa [one_mul])
  exact_mod_cast h

/-- An infinity comes only of a value at or above the midpoint beyond the largest finite number. -/
theorem overflow_value (hbig : 971 < unitExponent n d e ∨ (971 < unitExponent n d e + 1 ∧ significand n d e = 2 ^ 53)) :
    (2 ^ 54 - 1) * scaleUp d (970 - e) ≤ scaleUp n (e - 970) := by
  have hx := exactValue_pos hn hd (e - unitExponent n d e)
  have hvalue : exactValue n d (e - 970) = exactValue n d (e - unitExponent n d e) * 2 ^ (unitExponent n d e - 970) := by
    rw [← exactValue_add]; congr 1; omega
  have power (j : Int) (hj : j ≤ unitExponent n d e - 970) : (2 : ℚ) ^ j ≤ 2 ^ (unitExponent n d e - 970) :=
    zpow_le_zpow_right₀ (by norm_num) hj
  have hmid : ((2 ^ 54 - 1 : Nat) : ℚ) ≤ exactValue n d (e - 970) := by
    rw [hvalue]
    obtain hbig | ⟨hbig, hcarry⟩ := hbig
    · have hlow := (exactValue_units e hn hd).2.resolve_left (by omega)
      have hpow := power 2 (by omega)
      norm_num at hpow ⊢
      nlinarith
    · have hlow := carry_value e hd hcarry
      have hpow := power 1 (by omega)
      norm_num at hpow hlow ⊢
      nlinarith
  have h := (scaled_le_iff n hd (k := e - 970) (k' := 970 - e) (neg_sub _ _).symm (2 ^ 54 - 1) 1 0).mpr
    (by rw [Nat.cast_one, one_mul, Nat.cast_zero, add_zero]; exact hmid)
  rwa [one_mul, zero_mul, add_zero] at h

end Rounding

/-- `m` units `2^q` are a nearest value to `n / d * 2^e`: within half a unit, on a tie even, and within a quarter at a power of two
below which the numbers are twice as dense (R7). -/
structure IsNearest (n d : Nat) (e : Int) (m : Nat) (q : Int) : Prop where
  below : 2 * m * scaleUp d (q - e) ≤ 2 * scaleUp n (e - q) + scaleUp d (q - e)
  above : 2 * scaleUp n (e - q) ≤ 2 * m * scaleUp d (q - e) + scaleUp d (q - e)
  tie : 2 * m * scaleUp d (q - e) = 2 * scaleUp n (e - q) + scaleUp d (q - e) ∨
    2 * scaleUp n (e - q) = 2 * m * scaleUp d (q - e) + scaleUp d (q - e) → m % 2 = 0
  dense : m = 2 ^ 52 → -1074 < q → 4 * m * scaleUp d (q - e) ≤ 4 * scaleUp n (e - q) + scaleUp d (q - e)

/-- Without a carry the rounded value is a nearest one (R7). -/
theorem significand_nearest {n d : Nat} (e : Int) (hn : 0 < n) (hd : 0 < d) :
    IsNearest n d e (significand n d e) (unitExponent n d e) := by
  have hD := scaleUp_pos hd (unitExponent n d e - e)
  obtain ⟨hbelow, habove, htie⟩ := divNearestEven_spec (scaleUp n (e - unitExponent n d e)) hD
  refine ⟨hbelow, habove, htie, fun hm hq => ?_⟩
  have hlow := (exactValue_units e hn hd).2.resolve_left (by omega)
  have h := (scaled_le_iff n hd (k := e - unitExponent n d e) (k' := unitExponent n d e - e) (neg_sub _ _).symm (4 * 2 ^ 52) 4 1).mpr
    (by push_cast; linarith)
  rwa [one_mul, ← hm] at h

/-- A carry gives the next power of two, which is a nearest value (R7). -/
theorem carry_nearest {n d : Nat} (e : Int) (hn : 0 < n) (hd : 0 < d) (hcarry : significand n d e = 2 ^ 53) :
    IsNearest n d e (2 ^ 52) (unitExponent n d e + 1) := by
  have hvalue : exactValue n d (e - unitExponent n d e) = exactValue n d (e - (unitExponent n d e + 1)) * 2 := by
    rw [← zpow_one (2 : ℚ), ← exactValue_add]; congr 1; omega
  have hlow := carry_value e hd hcarry
  have hhigh := (exactValue_units e hn hd).1
  rw [hvalue] at hlow hhigh
  have hle (a b c : Nat) := scaled_le_iff n hd (k := e - (unitExponent n d e + 1)) (k' := unitExponent n d e + 1 - e)
    (neg_sub _ _).symm a b c
  have hbelow := (hle (4 * 2 ^ 52) 4 1).mpr (by push_cast; linarith)
  have habove := (scaled_lt_iff n hd (k := e - (unitExponent n d e + 1)) (k' := unitExponent n d e + 1 - e)
    (neg_sub _ _).symm (2 ^ 52)).mpr (by push_cast; linarith)
  rw [one_mul] at hbelow
  exact ⟨by omega, by omega, fun _ => by decide, fun _ _ => hbelow⟩

/-! ## Rounding to an integer -/

/-- The magnitude below an integer exponent: the nearest integer, a half upwards (R112, D5). -/
theorem half_up_spec (m : Nat) {p : Nat} (hp : 0 < p) :
    2 * ((2 * m + p) / (2 * p)) * p ≤ 2 * m + p ∧ 2 * m < 2 * ((2 * m + p) / (2 * p)) * p + p := by
  have hdiv := Nat.div_add_mod (2 * m + p) (2 * p)
  have hmod := Nat.mod_lt (2 * m + p) (show 0 < 2 * p by omega)
  have hcomm : 2 * ((2 * m + p) / (2 * p)) * p = 2 * p * ((2 * m + p) / (2 * p)) := by ring
  rw [hcomm]
  omega

theorem signed_magnitude (neg : Bool) (k : Nat) : (if neg then -(k : Int) else k) = (if neg then -1 else 1) * (k : Int) := by
  cases neg <;> simp

end Machine

open Machine

/-- Settles O33: with or without a carry, the rounded value by what its significand is a quotient of. -/
theorem roundingIsToNearestEven : Obligations.RoundingIsToNearestEven := by
  intro neg n d e hn hd
  obtain ⟨hle, hfull⟩ := significand_bounds e hn hd
  have hmin : -1074 ≤ unitExponent n d e := le_max_right _ _
  rw [roundTo64_eq neg d e hn]
  by_cases hcarry : significand n d e = 2 ^ 53
  · obtain ⟨hbelow, habove, htie, hdense⟩ := carry_nearest e hn hd hcarry
    rw [if_pos hcarry]
    split
    next hbig =>
      refine ⟨nofun, nofun, ?_⟩
      rintro _ ⟨⟩
      exact ⟨rfl, overflow_value e hn hd (.inr ⟨hbig, hcarry⟩)⟩
    next hbig =>
      refine ⟨nofun, ?_, nofun⟩
      rintro _ _ _ ⟨⟩
      exact ⟨rfl, by decide, by omega, by omega, .inl le_rfl, hbelow, habove, htie, hdense⟩
  · obtain ⟨hbelow, habove, htie, hdense⟩ := significand_nearest e hn hd
    rw [if_neg hcarry]
    split
    next hbig =>
      refine ⟨nofun, nofun, ?_⟩
      rintro _ ⟨⟩
      exact ⟨rfl, overflow_value e hn hd (.inl hbig)⟩
    next hbig =>
      refine ⟨nofun, ?_, nofun⟩
      rintro _ _ _ ⟨⟩
      exact ⟨rfl, lt_of_le_of_ne hle hcarry, hmin, by omega, hfull.symm, hbelow, habove, htie, hdense⟩

/-- Settles O34: the division by a power of two with half of it added. -/
theorem roundAwayIsNearest : Obligations.RoundAwayIsNearest := by
  refine fun neg m e => ⟨fun he => ?_, fun he => ?_⟩
  · rw [roundAway, if_pos he, signed_magnitude]; rfl
  · refine ⟨(2 * m + 2 ^ (-e).toNat) / (2 * 2 ^ (-e).toNat), ?_, half_up_spec m (Nat.two_pow_pos _)⟩
    rw [roundAway, if_neg (not_le.mpr he), signed_magnitude, Nat.pow_succ']

end Sys2Proof
end

section
/-! PROOF. The coordinate transform is exact (spec/43_coordinate_transform.md R113 to R121, D7): an operation whose exact result a
binary64 number holds returns that number, in the one form `pack` and `unpack` know; every operation of TODEG and of TOFIX on a
TODEG is one of these. -/

namespace Sys2Proof

namespace Machine

/-! ## Values that binary64 holds -/

/-- The sign of a number. -/
def signOf (neg : Bool) : ℚ := if neg then -1 else 1

/-- The value of a sign, a significand and an exponent (R110). -/
def finiteValue (neg : Bool) (m : Nat) (q : Int) : ℚ := signOf neg * (m * 2 ^ q)

/-- The form `roundTo64` gives a finite number: the one form of each magnitude (R7, R110). -/
structure Canonical (m : Nat) (q : Int) : Prop where
  lt : m < 2 ^ 53
  low : -1074 ≤ q
  high : q ≤ 971
  normal : 2 ^ 52 ≤ m ∨ q = -1074

/-- A binary64 number holds the value: an integer of at most 53 bits times a power of two in range (R110). -/
def Representable (v : ℚ) : Prop := ∃ z f : Int, v = z * 2 ^ f ∧ z.natAbs < 2 ^ 53 ∧ -1074 ≤ f ∧ f ≤ 971

/-- `x` is finite with the sign and the value given. -/
def HasValue (x : F64) (neg : Bool) (v : ℚ) : Prop := ∃ m q, x = .fin neg m q ∧ finiteValue neg m q = v

/-- `x` is the number with that value in its one form. -/
def IsNumber (x : F64) (neg : Bool) (v : ℚ) : Prop := ∃ m q, x = .fin neg m q ∧ Canonical m q ∧ finiteValue neg m q = v

theorem IsNumber.hasValue {x : F64} {neg : Bool} {v : ℚ} (h : IsNumber x neg v) : HasValue x neg v := by
  obtain ⟨m, q, hx, -, hv⟩ := h
  exact ⟨m, q, hx, hv⟩

theorem signOf_ne_zero (neg : Bool) : signOf neg ≠ 0 := by cases neg <;> norm_num [signOf]

theorem abs_signOf_mul (neg : Bool) (v : ℚ) : |signOf neg * v| = |v| := by cases neg <;> simp [signOf]

theorem signOf_xor (a b : Bool) : signOf (xor a b) = signOf a * signOf b := by cases a <;> cases b <;> norm_num [signOf]

theorem signOf_mul_natAbs (z : Int) : signOf (decide (z < 0)) * z.natAbs = z := by
  by_cases h : z < 0
  · have : (z.natAbs : Int) = -z := by omega
    simp [signOf, h, ← Int.cast_natCast (R := ℚ), this]
  · have : (z.natAbs : Int) = z := by omega
    simp [signOf, h, ← Int.cast_natCast (R := ℚ), this]

/-- Below a canonical form of the same magnitude there is no other one. -/
theorem Canonical.exponent_le {m m' : Nat} {q q' : Int} (h : Canonical m q) (h' : Canonical m' q')
    (hv : (m : ℚ) * 2 ^ q = m' * 2 ^ q') : q' ≤ q := by
  by_contra hlt
  have hm' : 2 ^ 52 ≤ m' := h'.normal.resolve_right (by have := h.low; omega)
  have hsplit : (2 : ℚ) ^ q' = 2 ^ (q' - q) * 2 ^ q := by rw [← zpow_add₀ (by norm_num)]; congr 1; omega
  have hpow : (2 : ℚ) ^ (1 : Int) ≤ 2 ^ (q' - q) := zpow_le_zpow_right₀ (by norm_num) (by omega)
  rw [hsplit, ← mul_assoc] at hv
  have hm : (m : ℚ) = m' * 2 ^ (q' - q) := mul_right_cancel₀ (by positivity) hv
  have hlt' : (m : ℚ) < 2 ^ 53 := by exact_mod_cast h.lt
  have hge : (2 ^ 52 : ℚ) ≤ m' := by exact_mod_cast hm'
  norm_num at hpow
  nlinarith

/-- Two numbers of the same sign and value are the same. -/
theorem IsNumber.unique {x y : F64} {neg : Bool} {v : ℚ} (hx : IsNumber x neg v) (hy : IsNumber y neg v) : x = y := by
  obtain ⟨m, q, rfl, hc, hv⟩ := hx
  obtain ⟨m', q', rfl, hc', hv'⟩ := hy
  have hmag : (m : ℚ) * 2 ^ q = m' * 2 ^ q' := mul_left_cancel₀ (signOf_ne_zero neg) (hv.trans hv'.symm)
  obtain rfl : q = q' := le_antisymm (hc'.exponent_le hc hmag.symm) (hc.exponent_le hc' hmag)
  have hm : (m : ℚ) = m' := mul_right_cancel₀ (by positivity) hmag
  rw [Nat.cast_injective hm]

/-! ## Exact operations -/

/-- A unit no larger than the one the value is a multiple of (R7). -/
theorem unitExponent_le {n d z : Nat} {e f : Int} (hn : 0 < n) (hd : 0 < d) (hz : z < 2 ^ 53) (hf : -1074 ≤ f)
    (hv : exactValue n d e = z * 2 ^ f) : unitExponent n d e ≤ f := by
  have hlow : (2 : ℚ) ^ (floorLog2 n d + e) ≤ exactValue n d e := by
    rw [zpow_add₀ (by norm_num), ← zero_add e, exactValue_add, zero_add]
    exact mul_le_mul_of_nonneg_right (floorLog2_spec hn hd).1 (by positivity)
  have hhigh : exactValue n d e < 2 ^ (53 + f) := by
    rw [hv, zpow_add₀ (by norm_num)]
    have : (z : ℚ) < 2 ^ (53 : Int) := by exact_mod_cast hz
    exact mul_lt_mul_of_pos_right this (by positivity)
  have := (zpow_lt_zpow_iff_right₀ (by norm_num : (1 : ℚ) < 2)).mp (hlow.trans_lt hhigh)
  rw [unitExponent]
  omega

/-- Rounding a value that binary64 holds changes nothing (R7). -/
theorem roundTo64_exact (neg : Bool) {n d z : Nat} {e f : Int} (hd : 0 < d) (hz : z < 2 ^ 53) (hf : -1074 ≤ f) (hf' : f ≤ 971)
    (hv : exactValue n d e = z * 2 ^ f) :
    ∃ m q, roundTo64 neg n d e = .fin neg m q ∧ Canonical m q ∧ (m : ℚ) * 2 ^ q = exactValue n d e := by
  obtain rfl | hn := Nat.eq_zero_or_pos n
  · exact ⟨0, -1074, rfl, ⟨by decide, le_rfl, by decide, .inr rfl⟩, by simp [exactValue]⟩
  · have hle := unitExponent_le hn hd hz hf hv
    obtain ⟨hlt, hfull⟩ := exactValue_units e hn hd
    have hunits : exactValue n d (e - unitExponent n d e) = (z * 2 ^ (f - unitExponent n d e).toNat : Nat) := by
      have hpow : (2 : ℚ) ^ f * 2 ^ (-unitExponent n d e) = 2 ^ (f - unitExponent n d e).toNat := by
        rw [← zpow_add₀ (by norm_num), ← zpow_natCast]; congr 1; omega
      rw [sub_eq_add_neg, exactValue_add, hv, mul_assoc, hpow]
      push_cast
      rfl
    have hscaled : scaleUp n (e - unitExponent n d e) =
        z * 2 ^ (f - unitExponent n d e).toNat * scaleUp d (unitExponent n d e - e) := by
      have := scaleUp_eq_exactValue_mul n hd (e - unitExponent n d e)
      rw [hunits, neg_sub] at this
      exact_mod_cast this
    have hsig : significand n d e = z * 2 ^ (f - unitExponent n d e).toNat := by
      rw [significand, hscaled, divNearestEven_mul _ (scaleUp_pos hd _)]
    rw [hunits, ← hsig] at hlt hfull
    have hlt' : significand n d e < 2 ^ 53 := by exact_mod_cast hlt
    refine ⟨significand n d e, unitExponent n d e, ?_, ⟨hlt', le_max_right _ _, by omega, ?_⟩, ?_⟩
    · rw [roundTo64_eq neg d e hn, if_neg hlt'.ne, if_neg (by omega)]
    · exact hfull.symm.imp_left fun h => by exact_mod_cast h
    · rw [hsig, ← hunits, ← exactValue_add, sub_add_cancel]

/-- The same with the sign. -/
theorem roundTo64_isNumber (neg : Bool) {n d : Nat} {e : Int} {v : ℚ} (hd : 0 < d) (hv : signOf neg * exactValue n d e = v)
    (hrep : Representable v) : IsNumber (roundTo64 neg n d e) neg v := by
  obtain ⟨z, f, hz, hlt, hf, hf'⟩ := hrep
  have hmag : exactValue n d e = z.natAbs * 2 ^ f := by
    have hnonneg : 0 ≤ exactValue n d e := by rw [exactValue]; positivity
    rw [← abs_of_nonneg hnonneg, ← abs_signOf_mul neg, hv, hz, abs_mul, abs_of_pos (by positivity : (0 : ℚ) < 2 ^ f), Nat.cast_natAbs,
      Int.cast_abs]
  obtain ⟨m, q, hround, hcanonical, hvalue⟩ := roundTo64_exact neg hd hlt hf hf' hmag
  exact ⟨m, q, hround, hcanonical, by rw [finiteValue, hvalue, hv]⟩

theorem exactValue_one (n : Nat) (e : Int) : exactValue n 1 e = n * 2 ^ e := by rw [exactValue, Nat.cast_one, div_one]

theorem ofInt_hasValue (z : Int) : HasValue (ofInt z) (decide (z < 0)) z :=
  ⟨_, _, rfl, by rw [finiteValue, zpow_zero, mul_one, signOf_mul_natAbs]⟩

theorem ofNat_hasValue (k : Nat) : HasValue (ofInt k) false k := by
  have h := ofInt_hasValue k
  rwa [decide_eq_false (by omega), Int.cast_natCast] at h

theorem fneg_hasValue {x : F64} {s : Bool} {v : ℚ} (h : HasValue x s v) : HasValue (fneg x) (!s) (-v) := by
  obtain ⟨m, q, rfl, rfl⟩ := h
  exact ⟨m, q, rfl, by cases s <;> simp [finiteValue, signOf]⟩

/-- A product that binary64 holds is returned (R111). -/
theorem fmul_isNumber {x y : F64} {s t : Bool} {v w : ℚ} (hx : HasValue x s v) (hy : HasValue y t w) (hrep : Representable (v * w)) :
    IsNumber (fmul x y) (xor s t) (v * w) := by
  obtain ⟨m, e, rfl, rfl⟩ := hx
  obtain ⟨m', e', rfl, rfl⟩ := hy
  refine roundTo64_isNumber _ Nat.one_pos ?_ hrep
  rw [exactValue_one, signOf_xor, finiteValue, finiteValue, zpow_add₀ (by norm_num)]
  push_cast
  ring

/-- A quotient that binary64 holds is returned (R111). -/
theorem fdiv_isNumber {x y : F64} {s t : Bool} {v w : ℚ} (hx : HasValue x s v) (hy : HasValue y t w) (hw : w ≠ 0)
    (hrep : Representable (v / w)) : IsNumber (fdiv x y) (xor s t) (v / w) := by
  obtain ⟨m, e, rfl, rfl⟩ := hx
  obtain ⟨m', e', rfl, rfl⟩ := hy
  have hm' : m' ≠ 0 := by rintro rfl; exact hw (by simp [finiteValue])
  have hm'q : (m' : ℚ) ≠ 0 := by exact_mod_cast hm'
  rw [fdiv, if_neg hm']
  refine roundTo64_isNumber _ (Nat.pos_of_ne_zero hm') ?_ hrep
  have hsign : signOf t * signOf t = 1 := by cases t <;> norm_num [signOf]
  have := signOf_ne_zero t
  rw [exactValue, signOf_xor, finiteValue, finiteValue, zpow_sub₀ (by norm_num)]
  field_simp
  linear_combination signOf s * m * hsign

/-- A signed significand at a smaller exponent. -/
theorem signedAt_cast (neg : Bool) (m : Nat) {e e' : Int} (h : e' ≤ e) :
    (signedAt neg m e e' : ℚ) * 2 ^ e' = finiteValue neg m e := by
  have hscaled : (scaleUp m (e - e') : ℚ) * 2 ^ e' = m * 2 ^ e := by
    rw [scaleUp_cast, mul_assoc, ← zpow_add₀ (by norm_num)]; congr 2; omega
  cases neg <;> simp [signedAt, finiteValue, signOf, hscaled]

/-- A sum that binary64 holds is returned (R111). -/
theorem fadd_isNumber {x y : F64} {s t : Bool} {v w : ℚ} (hx : HasValue x s v) (hy : HasValue y t w) (hrep : Representable (v + w)) :
    IsNumber (fadd x y) (if v + w = 0 then s && t else decide (v + w < 0)) (v + w) := by
  obtain ⟨m, e, rfl, rfl⟩ := hx
  obtain ⟨m', e', rfl, rfl⟩ := hy
  have hsum : ((signedAt s m e (min e e') + signedAt t m' e' (min e e') : Int) : ℚ) * 2 ^ min e e' =
      finiteValue s m e + finiteValue t m' e' := by
    push_cast
    rw [add_mul, signedAt_cast s m (min_le_left e e'), signedAt_cast t m' (min_le_right e e')]
  rw [fadd]
  generalize signedAt s m e (min e e') + signedAt t m' e' (min e e') = z at hsum ⊢
  have hpow : (0 : ℚ) < 2 ^ min e e' := by positivity
  rw [← hsum] at hrep ⊢
  by_cases hz : z = 0
  · subst hz
    simp only [Int.cast_zero, zero_mul, if_true]
    exact ⟨0, -1074, rfl, ⟨by decide, le_rfl, by decide, .inr rfl⟩, by simp [finiteValue]⟩
  · have hzq : (z : ℚ) ≠ 0 := by exact_mod_cast hz
    have hneg : decide ((z : ℚ) * 2 ^ min e e' < 0) = decide (z < 0) := by
      rw [decide_eq_decide, mul_neg_iff]; simp [hpow, hpow.not_gt]
    rw [if_neg (mul_ne_zero hzq hpow.ne'), hneg]
    simp only [hz, if_false]
    refine roundTo64_isNumber _ Nat.one_pos ?_ hrep
    rw [exactValue_one, ← mul_assoc, signOf_mul_natAbs]

/-! ## Patterns -/

/-- The bits of a pattern, field by field (R110). -/
theorem packFields_getLsbD (neg : Bool) (e f i : Nat) : (packFields neg e f).getLsbD i =
    if i < 63 then (if i < 52 then (BitVec.ofNat 52 f).getLsbD i else (BitVec.ofNat 11 e).getLsbD (i - 52))
    else (BitVec.ofBool neg).getLsbD (i - 63) := by
  have houter := BitVec.getLsbD_append (x := BitVec.ofBool neg) (y := BitVec.ofNat 11 e ++ BitVec.ofNat 52 f) (i := i)
  exact houter.trans (by rw [BitVec.getLsbD_append])

theorem packFields_sign (neg : Bool) (e f : Nat) : (packFields neg e f).getLsbD 63 = neg := by
  rw [packFields_getLsbD]
  cases neg <;> rfl

theorem packFields_exponent (neg : Bool) (e f : Nat) : (packFields neg e f).extractLsb' 52 11 = BitVec.ofNat 11 e := by
  refine BitVec.eq_of_getLsbD_eq fun i hi => ?_
  rw [BitVec.getLsbD_extractLsb', packFields_getLsbD, if_pos (by omega), if_neg (by omega), Nat.add_sub_cancel_left, decide_eq_true hi,
    Bool.true_and]

theorem packFields_fraction (neg : Bool) (e f : Nat) : (packFields neg e f).extractLsb' 0 52 = BitVec.ofNat 52 f := by
  refine BitVec.eq_of_getLsbD_eq fun i hi => ?_
  rw [BitVec.getLsbD_extractLsb', packFields_getLsbD, Nat.zero_add, if_pos (by omega), if_pos hi, decide_eq_true hi, Bool.true_and]

/-- Unpacking a finite pattern gives its fields (R110). -/
theorem unpack_packFields (neg : Bool) {e f : Nat} (he : e < 2047) (hf : f < 2 ^ 52) :
    unpack (packFields neg e f) = if e = 0 then .fin neg f (-1074) else .fin neg (2 ^ 52 + f) ((e : Int) - 1075) := by
  have he' : (BitVec.ofNat 11 e).toNat = e := by rw [BitVec.toNat_ofNat]; omega
  have hf' : (BitVec.ofNat 52 f).toNat = f := by rw [BitVec.toNat_ofNat]; omega
  rw [unpack]
  simp only [packFields_sign, packFields_exponent, packFields_fraction, he', hf']
  rw [if_neg he.ne]

/-- A number in its one form survives packing (R110). -/
theorem unpack_pack {m : Nat} {q : Int} (neg : Bool) (h : Canonical m q) : unpack (pack (.fin neg m q)) = .fin neg m q := by
  obtain ⟨hlt, hlow, hhigh, hnormal⟩ := h
  rw [pack]
  split
  next hm =>
    obtain rfl := hnormal.resolve_left (by omega)
    rw [unpack_packFields neg (by decide) hm, if_pos rfl]
  next hm =>
    have hmant : 2 ^ 52 + (m - 2 ^ 52) = m := by omega
    have hexp : ((q + 1075).toNat : Int) - 1075 = q := by omega
    rw [unpack_packFields neg (by omega) (by omega), if_neg (by omega), hmant, hexp]

theorem IsNumber.unpack_pack {x : F64} {neg : Bool} {v : ℚ} (h : IsNumber x neg v) : unpack (pack x) = x := by
  obtain ⟨m, q, rfl, hc, -⟩ := h
  exact Machine.unpack_pack neg hc

/-- An integer rounded to an integer is itself (R112, D5). -/
theorem roundAway_of_int {neg : Bool} {m : Nat} {e z : Int} (h : finiteValue neg m e = z) : roundAway neg m e = z := by
  have hmag : (m : ℚ) * 2 ^ e = z.natAbs := by
    have hnonneg : (0 : ℚ) ≤ m * 2 ^ e := by positivity
    rw [← abs_of_nonneg hnonneg, ← abs_signOf_mul neg, ← finiteValue, h, Nat.cast_natAbs, Int.cast_abs]
  have hz : (if neg then -(z.natAbs : Int) else z.natAbs) = z := by
    rw [finiteValue, hmag] at h
    cases neg with
    | false =>
      have hcast : ((z.natAbs : Int) : ℚ) = z := (one_mul (z.natAbs : ℚ)).symm.trans h
      exact Int.cast_injective hcast
    | true =>
      have hcast : ((-(z.natAbs : Int) : Int) : ℚ) = z := by rw [Int.cast_neg]; exact (neg_one_mul (z.natAbs : ℚ)).symm.trans h
      exact Int.cast_injective hcast
  have hrounded : (if 0 ≤ e then scaleUp m e else (2 * m + 2 ^ (-e).toNat) / 2 ^ ((-e).toNat + 1)) = z.natAbs := by
    split
    next he =>
      have : (scaleUp m e : ℚ) = z.natAbs := by rw [scaleUp_cast, Int.toNat_of_nonneg he, hmag]
      exact_mod_cast this
    next he =>
      have hm : (m : ℚ) = z.natAbs * 2 ^ (-e).toNat := by
        rw [← hmag, mul_assoc, ← zpow_natCast, ← zpow_add₀ (by norm_num), show e + ((-e).toNat : Int) = 0 by omega, zpow_zero, mul_one]
      have hm : m = z.natAbs * 2 ^ (-e).toNat := by exact_mod_cast hm
      have hp := Nat.two_pow_pos (-e).toNat
      have hsplit : 2 * m + 2 ^ (-e).toNat = 2 ^ (-e).toNat + 2 * 2 ^ (-e).toNat * z.natAbs := by rw [hm]; ring
      rw [Nat.pow_succ', hsplit, Nat.add_mul_div_left _ _ (by omega), Nat.div_eq_of_lt (by omega), Nat.zero_add]
  rw [roundAway, hrounded, hz]

/-! ## TODEG and TOFIX -/

/-- The degrees of a fixed value, in units of `2^-28` (R117, R118). -/
def degreeUnits (n : Word32) (span offset : Nat) : Int := n.toInt * span - offset * 2 ^ 28

/-- A small integer in units of `2^-28`, or in units of 1, is held. -/
theorem representable_units {z : Int} (hz : z.natAbs < 2 ^ 53) : Representable (z * 2 ^ (-28 : Int)) ∧ Representable z :=
  ⟨⟨z, -28, rfl, hz, by decide, by decide⟩, ⟨z, 0, by simp, hz, by decide, by decide⟩⟩

/-- The exact degrees of a fixed value, as the difference the three-operation form ends with. -/
theorem degreeUnits_value (n : Word32) (span offset : Nat) :
    ((n.toInt * span : Int) : ℚ) * 2 ^ (-28 : Int) + -(offset : ℚ) = degreeUnits n span offset * 2 ^ (-28 : Int) := by
  rw [degreeUnits, show (2 : ℚ) ^ (-28 : Int) = 1 / 268435456 by norm_num]
  push_cast
  ring

section Transform

variable (n : Word32) {span offset : Nat} (hspan : span = 2 * offset) (hpos : 0 < offset) (hoffset : offset ≤ 180)
include hspan hpos hoffset

/-- The product of a fixed value and the span fits 53 bits, and so do its degrees. -/
theorem degreeUnits_small : (n.toInt * span).natAbs < 2 ^ 53 ∧ (degreeUnits n span offset).natAbs < 2 ^ 53 := by
  have hlow := BitVec.le_toInt n
  have hhigh := BitVec.toInt_lt (x := n)
  have hprod : (n.toInt * span).natAbs ≤ 2 ^ 31 * 360 := by
    rw [Int.natAbs_mul]; exact Nat.mul_le_mul (by omega) (by omega)
  rw [degreeUnits]
  omega

/-- TODEG's value before packing (R117, R118, D7). -/
theorem degrees_isNumber :
    IsNumber (roundTo64 (decide (degreeUnits n span offset < 0)) (degreeUnits n span offset).natAbs 1 (-28))
      (decide (degreeUnits n span offset < 0)) (degreeUnits n span offset * 2 ^ (-28 : Int)) :=
  roundTo64_isNumber _ Nat.one_pos (by rw [exactValue_one, ← mul_assoc, signOf_mul_natAbs])
    (representable_units (degreeUnits_small n hspan hpos hoffset).2).1

/-- What unpacking TODEG's result gives (R117, R118, D7). -/
theorem unpack_toDegrees : IsNumber (unpack (toDegrees n span offset)) (decide (degreeUnits n span offset < 0))
    (degreeUnits n span offset * 2 ^ (-28 : Int)) := by
  have h := degrees_isNumber n hspan hpos hoffset
  change IsNumber (unpack (pack (roundTo64 (decide (degreeUnits n span offset < 0)) (degreeUnits n span offset).natAbs 1 (-28)))) _ _
  rw [h.unpack_pack]
  exact h

/-- The exact degrees, both sides times `2^1074` (R117, R118, D7). -/
theorem toDegrees_exact : ∃ neg m e, unpack (toDegrees n span offset) = .fin neg m e ∧ -1074 ≤ e ∧
    signedAt neg m e (-1074) = degreeUnits n span offset * 2 ^ 1046 := by
  obtain ⟨m, q, hx, hc, hv⟩ := unpack_toDegrees n hspan hpos hoffset
  refine ⟨_, m, q, hx, hc.low, ?_⟩
  have hcast := signedAt_cast (decide (degreeUnits n span offset < 0)) m hc.low
  rw [hv] at hcast
  have hsplit : (2 : ℚ) ^ (-28 : Int) = 2 ^ 1046 * 2 ^ (-1074 : Int) := by
    rw [← zpow_natCast, ← zpow_add₀ (by norm_num)]; congr 1
  rw [hsplit, ← mul_assoc] at hcast
  have hint := mul_right_cancel₀ (by positivity) hcast
  apply Int.cast_injective (α := ℚ)
  rw [hint, Int.cast_mul, Int.cast_pow, Int.cast_ofNat]

/-- The product of a fixed value and the span, and its quotient by `2^28` (R119, D7). -/
theorem scaled_isNumber :
    IsNumber (fdiv (fmul (ofInt n.toInt) (ofInt span)) (ofInt 268435456)) (decide (n.toInt < 0))
      ((n.toInt * span : Int) * 2 ^ (-28 : Int)) := by
  obtain ⟨hunits, hint⟩ := representable_units (degreeUnits_small n hspan hpos hoffset).1
  have hmul := fmul_isNumber (ofInt_hasValue n.toInt) (ofNat_hasValue span) (by exact_mod_cast hint)
  have hdiv : (n.toInt : ℚ) * span / (268435456 : Nat) = (n.toInt * span : Int) * 2 ^ (-28 : Int) := by
    rw [show (2 : ℚ) ^ (-28 : Int) = 1 / 268435456 by norm_num]
    push_cast
    ring
  have h := fdiv_isNumber hmul.hasValue (ofNat_hasValue 268435456) (by norm_num) (by rw [hdiv]; exact hunits)
  rwa [hdiv, Bool.xor_false, Bool.xor_false] at h

/-- Every operation of the three-operation form is exact (R119, D7). -/
theorem threeOperations_eq :
    pack (fsub (fdiv (fmul (ofInt n.toInt) (ofInt span)) (ofInt 268435456)) (ofInt offset)) = toDegrees n span offset := by
  have hrep := (representable_units (degreeUnits_small n hspan hpos hoffset).2).1
  have hvalue := degreeUnits_value n span offset
  have hsub := fadd_isNumber (scaled_isNumber n hspan hpos hoffset).hasValue (fneg_hasValue (ofNat_hasValue offset))
    (by rw [hvalue]; exact hrep)
  have hsign : (if ((n.toInt * span : Int) : ℚ) * 2 ^ (-28 : Int) + -(offset : ℚ) = 0 then decide (n.toInt < 0) && !false
      else decide (((n.toInt * span : Int) : ℚ) * 2 ^ (-28 : Int) + -(offset : ℚ) < 0)) = decide (degreeUnits n span offset < 0) := by
    rw [hvalue]
    split
    next hzero =>
      have hzero : degreeUnits n span offset = 0 := by simpa using hzero
      have hnonneg : ¬ n.toInt < 0 := fun hneg => by
        rw [degreeUnits] at hzero
        nlinarith
      simp [hzero, hnonneg]
    next => rw [decide_eq_decide, mul_neg_iff]; simp
  rw [hsign, hvalue] at hsub
  exact congrArg pack (hsub.unique (degrees_isNumber n hspan hpos hoffset))

/-- TOFIX undoes TODEG: every operation is exact (R121). -/
theorem toFixed_toDegrees : toFixed (toDegrees n span offset) offset span = some n := by
  obtain ⟨hsmall, -⟩ := degreeUnits_small n hspan hpos hoffset
  obtain ⟨hunits, hint⟩ := representable_units hsmall
  have hspan0 : (span : ℚ) ≠ 0 := by exact_mod_cast (show span ≠ 0 by omega)
  have hadd : (degreeUnits n span offset : ℚ) * 2 ^ (-28 : Int) + offset = (n.toInt * span : Int) * 2 ^ (-28 : Int) := by
    linarith [degreeUnits_value n span offset]
  have hmul : ((n.toInt * span : Int) : ℚ) * 2 ^ (-28 : Int) * (268435456 : Nat) = (n.toInt * span : Int) := by
    rw [show (2 : ℚ) ^ (-28 : Int) = 1 / 268435456 by norm_num]
    push_cast
    ring
  have hdiv : ((n.toInt * span : Int) : ℚ) / span = n.toInt := by push_cast; field_simp
  have h1 := fadd_isNumber (unpack_toDegrees n hspan hpos hoffset).hasValue (ofNat_hasValue offset) (by rw [hadd]; exact hunits)
  rw [hadd] at h1
  have h2 := fmul_isNumber h1.hasValue (ofNat_hasValue 268435456) (by rw [hmul]; exact hint)
  rw [hmul] at h2
  have hlow := BitVec.le_toInt n
  have hhigh := BitVec.toInt_lt (x := n)
  obtain ⟨m, q, h3, -, hv⟩ := fdiv_isNumber h2.hasValue (ofNat_hasValue span) hspan0
    (by rw [hdiv]; exact (representable_units (by omega)).2)
  rw [hdiv] at hv
  have hround := roundAway_of_int hv
  exact (toFixed_eq_some_iff _ offset span n).mpr ⟨_, m, q, h3, by omega, by omega, hround.symm⟩

end Transform

end Machine

open Machine

/-- Settles O35: the result is a number binary64 holds. -/
theorem todegReturnsTheExactDegrees : Obligations.TodegReturnsTheExactDegrees := fun n s hs =>
  ⟨⟨toDegreesX n, exec_unit (i := .todegx n) rfl hs, toDegrees_exact n (span := 360) (offset := 180) rfl (by decide) (by decide)⟩,
    ⟨toDegreesY n, exec_unit (i := .todegy n) rfl hs, toDegrees_exact n (span := 180) (offset := 90) rfl (by decide) (by decide)⟩⟩

/-- Settles O36: `threeOperations_eq` at the constants of each axis. -/
theorem todegThreeOperationsAgree : Obligations.TodegThreeOperationsAgree := fun n =>
  ⟨threeOperations_eq n (span := 360) (offset := 180) rfl (by decide) (by decide),
    threeOperations_eq n (span := 180) (offset := 90) rfl (by decide) (by decide)⟩

/-- Settles O37: `toFixed_toDegrees` at the constants of each axis. -/
theorem transformRoundTrips : Obligations.TransformRoundTrips := fun n =>
  ⟨toFixed_toDegrees n (span := 360) (offset := 180) rfl (by decide) (by decide),
    toFixed_toDegrees n (span := 180) (offset := 90) rfl (by decide) (by decide)⟩

end Sys2Proof
end
